-- ==== Sys2Proof/Word.lean ====
section
/-!
DEFINITION. The plain types every file of the model shares: the 16-bit word, the host, target and region
numbers, sets of hosts, and reading or replacing one entry of a fixed number of like things.
-/
namespace Sys2Proof

/-- A word is 16 bits; buffer memory, mailboxes, target registers and host-port data are counted in words. -/
abbrev Word := BitVec 16

/-- Hosts are numbered 0 to 3, the same as their port numbers. -/
abbrev HostId := Fin 4

/-- Targets are numbered 0 to 7. -/
abbrev TargetId := Fin 8

/-- Regions are numbered 0 to 15. -/
abbrev RegionId := Fin 16

/-- A set of hosts: bit h stands for host h (R155). -/
abbrev HostSet := BitVec 4

/-- Entry `i` of a fixed number of like things. -/
def pick {α : Type} {n : Nat} (v : Vector α n) (i : Fin n) : α := v[i.val]

/-- The same things with entry `i` replaced. -/
def put {α : Type} {n : Nat} (v : Vector α n) (i : Fin n) (x : α) : Vector α n := v.set i.val x i.isLt

/-- Host `h` is in the set. -/
def HostSet.has (s : HostSet) (h : HostId) : Bool := s.getLsbD h.val

/-- The set with host `h` added. -/
def HostSet.plus (s : HostSet) (h : HostId) : HostSet := s ||| (1#4 <<< h.val)

/-- The set with host `h` taken out. -/
def HostSet.minus (s : HostSet) (h : HostId) : HostSet := s &&& ~~~(1#4 <<< h.val)

/-- The four hosts in number order. -/
def allHosts : List HostId := [0, 1, 2, 3]

end Sys2Proof
end

