-- ==== Sys2Proof/Syntax.lean ====
section
/-!
DEFINITION. The commands and events of the block, one constructor per row of spec/opcode_table.json, with what
reaches the part from outside as operands: the port, the word address, the word written, the word a target drives.
A host command row is the host's write of that command's code to COMMAND at port `p`; its parameters are the
words the host has written to P0 to P7 and S0 to S7 before (R153, R154).
-/
namespace Sys2Proof

/-- The five apertures of a port (section 9.1). -/
inductive Aperture where
  | a0 | a1 | a2 | a3 | w
  deriving DecidableEq, Repr

/-- One command or event of the opcode table. -/
inductive Instr where
  -- resets and time
  | deviceReset
  | resetHoldEnd
  | portReset (p : HostId)
  | portResetEnd (p : HostId)
  | tick
  | cycleEndBoundary
  | syncInPulse
  | msMark
  -- reactions and reports between the units
  | proposalExpire
  | wtuBoundaryReaction
  | tbiBoundaryReaction
  | otaBoundaryReaction
  | requestExpired
  | windowStartAnnounce
  | windowEndTime
  | openTimeEnd
  | readyTimeout
  | accessComplete (word : Word)
  | cycleContentsHandover
  | targetContentsHandover
  | proposalApplied
  | wtuLimitClear
  | ctmDeparture (h : HostId)
  | wtuDeparture (h : HostId)
  | rgmDeparture (h : HostId)
  | otaDeparture (h : HostId)
  | portDeparture (h : HostId)
  -- host commands
  | join (p : HostId)
  | leave (p : HostId)
  | queryMembers (p : HostId)
  | proposeCycle (p : HostId)
  | proposeTarget (p : HostId)
  | vote (p : HostId)
  | withdrawProposal (p : HostId)
  | queryProposal (p : HostId)
  | queryTimebase (p : HostId)
  | stageAdd (p : HostId)
  | stageChange (p : HostId)
  | stageRemove (p : HostId)
  | withdrawEdit (p : HostId)
  | queryWindow (p : HostId)
  | defineRegion (p : HostId)
  | deleteRegion (p : HostId)
  | queryRegion (p : HostId)
  | openRead (p : HostId)
  | closeRead (p : HostId)
  | openWrite (p : HostId)
  | publish (p : HostId)
  | abandonWrite (p : HostId)
  | submit (p : HostId)
  | cancel (p : HostId)
  | queryQueue (p : HostId)
  | targetRestore (p : HostId)
  | queryTarget (p : HostId)
  -- other host accesses
  | badCommand (p : HostId) (value : Word)
  | issueWhileBusy (p : HostId) (value : Word)
  | eventPop (p : HostId) (value : Word)
  | portFlagsWrite (p : HostId) (value : Word)
  | portControlWrite (p : HostId) (value : Word)
  | registerWrite (p : HostId) (addr : BitVec 15) (value : Word)
  | apertureRead (p : HostId) (ap : Aperture) (word : Fin 2048)
  | apertureWrite (p : HostId) (ap : Aperture) (word : Fin 2048) (value : Word)
  | mailboxWrite (p : HostId) (word : Fin 256) (value : Word)
  | deviceResetEnd
  deriving DecidableEq, Repr

end Sys2Proof
end

