-- ==== Sys2Proof/Decode.lean ====
section
/-!
DEFINITION. The command that a word spells by the opcode table's bits. The table gives bits to none of its rows
(every row's "fields" is empty and none has "fixed"), so no word spells a command. A host's COMMAND write is
decoded by `Sys2Proof.Machine.Cmd.ofCode` (section 9.3), its address by `Sys2Proof.Machine.addrClass` (R151).
-/
namespace Sys2Proof

/-- No row of the table has bits, so no word spells a command. (DESIGN CHOICE, log entry 1) -/
def decodeTableWord (_nbits _w : Nat) : Option Instr := none

end Sys2Proof
end

