-- ==== Sys2Proof/Machine/AddressMap.lean ====
section
/-!
DEFINITION. The host port's address map and register page (sections 9.1 and 9.2), the command codes
(section 9.3), and taking bit fields out of a word or packing them into one (R155).
-/
namespace Sys2Proof.Machine

/-- Bits `lo` to `lo + len - 1` of a word, as a number. -/
def bits (w : Word) (lo len : Nat) : Nat := w.toNat / 2 ^ lo % 2 ^ len

/-- A word whose fields (low bit, width, value) are the ones listed; every other bit reads 0 (R152). -/
def pack (fields : List (Nat × Nat × Nat)) : Word :=
  BitVec.ofNat 16 (fields.foldl (fun n f => n + f.2.2 % 2 ^ f.2.1 * 2 ^ f.1) 0)

/-- A number as one word. -/
def word (n : Nat) : Word := BitVec.ofNat 16 n

/-- A 32-bit value takes two words, high word first (R155). -/
def highWord (v : BitVec 32) : Word := v.extractLsb' 16 16

/-- The low word of a 32-bit value (R155). -/
def lowWord (v : BitVec 32) : Word := v.extractLsb' 0 16

/-- A flag as a field of one bit: NO, OFF and CLEAR are 0 (value codes, section 9.3). -/
def bit (b : Bool) : Nat := if b then 1 else 0

/-- A register of the register page (section 9.2). -/
inductive PageReg where
  | portId | version | portStatus | command
  | param (i : Fin 8)
  | result (i : Fin 8)
  | eventPop
  | popped (i : Fin 6)
  | eventCount | portControl | portFlags
  | segment (i : Fin 24)
  deriving DecidableEq, Repr

/-- What a word address of a port names (R151). -/
inductive AddrClass where
  | page (r : PageReg)
  | unnamedOffset
  | mailbox (j : Fin 256)
  | aperture (ap : Aperture) (w : Fin 2048)
  | outside
  deriving DecidableEq, Repr

/-- The register at an offset of the page; none where the table names none. -/
def pageReg (o : Nat) : Option PageReg :=
  if o = 0x00 then some .portId
  else if o = 0x01 then some .version
  else if o = 0x02 then some .portStatus
  else if o = 0x03 then some .command
  else if h : 0x04 ≤ o ∧ o < 0x0C then some (.param ⟨o - 0x04, by omega⟩)
  else if h : 0x0C ≤ o ∧ o < 0x14 then some (.result ⟨o - 0x0C, by omega⟩)
  else if o = 0x14 then some .eventPop
  else if h : 0x15 ≤ o ∧ o < 0x1B then some (.popped ⟨o - 0x15, by omega⟩)
  else if o = 0x1B then some .eventCount
  else if o = 0x1C then some .portControl
  else if o = 0x1D then some .portFlags
  else if h : 0x20 ≤ o ∧ o < 0x38 then some (.segment ⟨o - 0x20, by omega⟩)
  else none

/-- R151: the port decodes each host access by its word address. -/
def addrClass (addr : BitVec 15) : AddrClass :=
  let a := addr.toNat
  if a < 0x40 then
    match pageReg a with
    | some r => .page r
    | none => .unnamedOffset
  else if h : 0x100 ≤ a ∧ a < 0x200 then .mailbox ⟨a - 0x100, by omega⟩
  else if h : 0x800 ≤ a ∧ a < 0x1000 then .aperture .w ⟨a - 0x800, by omega⟩
  else if h : 0x1000 ≤ a ∧ a < 0x1800 then .aperture .a0 ⟨a - 0x1000, by omega⟩
  else if h : 0x1800 ≤ a ∧ a < 0x2000 then .aperture .a1 ⟨a - 0x1800, by omega⟩
  else if h : 0x2000 ≤ a ∧ a < 0x2800 then .aperture .a2 ⟨a - 0x2000, by omega⟩
  else if h : 0x2800 ≤ a ∧ a < 0x3000 then .aperture .a3 ⟨a - 0x2800, by omega⟩
  else .outside

/-- The commands of the command-code table (section 9.3). -/
inductive Cmd where
  | join | leave | queryMembers | proposeCycle | proposeTarget | vote | withdrawProposal | queryProposal
  | queryTimebase
  | stageAdd | stageChange | stageRemove | withdrawEdit | queryWindow
  | defineRegion | deleteRegion | queryRegion | openRead | closeRead | openWrite | publish | abandonWrite
  | submit | cancel | queryQueue
  | targetRestore | queryTarget
  deriving DecidableEq, Repr

/-- A command's code (section 9.3). -/
def Cmd.code : Cmd → BitVec 8
  | .join => 0x01
  | .leave => 0x02
  | .queryMembers => 0x03
  | .proposeCycle => 0x04
  | .proposeTarget => 0x05
  | .vote => 0x06
  | .withdrawProposal => 0x07
  | .queryProposal => 0x08
  | .queryTimebase => 0x10
  | .stageAdd => 0x20
  | .stageChange => 0x21
  | .stageRemove => 0x22
  | .withdrawEdit => 0x23
  | .queryWindow => 0x24
  | .defineRegion => 0x30
  | .deleteRegion => 0x31
  | .queryRegion => 0x32
  | .openRead => 0x33
  | .closeRead => 0x34
  | .openWrite => 0x35
  | .publish => 0x36
  | .abandonWrite => 0x37
  | .submit => 0x40
  | .cancel => 0x41
  | .queryQueue => 0x42
  | .targetRestore => 0x50
  | .queryTarget => 0x51

/-- Every command of the table, in code order. -/
def allCmds : List Cmd :=
  [.join, .leave, .queryMembers, .proposeCycle, .proposeTarget, .vote, .withdrawProposal, .queryProposal,
   .queryTimebase, .stageAdd, .stageChange, .stageRemove, .withdrawEdit, .queryWindow, .defineRegion,
   .deleteRegion, .queryRegion, .openRead, .closeRead, .openWrite, .publish, .abandonWrite, .submit, .cancel,
   .queryQueue, .targetRestore, .queryTarget]

/-- The command a written code names, if any (R153). -/
def Cmd.ofCode (c : BitVec 8) : Option Cmd := allCmds.find? (fun k => k.code == c)

/-- COMMAND holds the command code in bits 0 to 7; its other bits are ignored when written (section 9.2). -/
def commandCode (v : Word) : BitVec 8 := v.extractLsb' 0 8

end Sys2Proof.Machine
end

