-- ==== Sys2Proof/Config.lean ====
section
/-!
DEFINITION. What the part fixes (sizes and limits the manual states) and the free values: constants without a
body, which nothing in Lean can evaluate. A free value stands for what the manual does not fix or for what a
line from outside the part carries.
-/
namespace Sys2Proof.Config

/-- VERSION reads 0x0101 (section 9.2). -/
def version : Word := 0x0101

/-- The block pool is 768 blocks (R66). -/
def blocks : Nat := 768

/-- A block holds 32 words (R66). -/
def blockWords : Nat := 32

/-- The segment store has 192 entries (R24). -/
def segmentEntries : Nat := 192

/-- The staged edit list never holds more than 32 edits (R25). -/
def maxEdits : Nat := 32

/-- An event queue holds at most 32 records (R156). -/
def maxEvents : Nat := 32

/-- A host's request queue holds at most 8 requests (R135). -/
def maxRequests : Nat := 8

/-- Reference periods in one millisecond at 50 MHz (R17). -/
def periodsPerMs : Nat := 50000

/-- Reference periods in the 100 µs for which TRST outlasts device reset (R130). -/
def periodsOfHold : Nat := 5000

/-- Reference periods in one microsecond of ready timeout (R121). -/
def periodsPerUs : Nat := 50

/-- FREE VALUE (log entry 4): whether READY is asserted at the n-th reference period that passes. READY is a line
driven from outside the part. -/
opaque readyLine : Nat → Bool

/-- FREE VALUE (log entry 4): the word that the targets drive on D0 to D15 at the n-th reference period that passes. -/
opaque dataLines : Nat → Word

/-- FREE VALUE (log entry 5): the generation an ending step reports when it must read the current generation of a
region that no longer exists; R112 states no value there. -/
opaque goneGeneration : Nat → BitVec 32

/-- FREE VALUE (log entry 6): whether the engine takes the start announcement before the arbiter's hand-over when both reach
it together (R100, R143 give both orders). -/
opaque startBeforeChoice : Nat → Bool

/-- FREE VALUE (log entry 17): whether the end of a tick, with the end time and the end of open time it brings, is taken before
the end of an access that falls on the same reference period. -/
opaque tickBeforeAccess : Nat → Bool

/-- FREE VALUE (log entry 17): whether the rest that such a tick brings is taken before the end of the access, too: the start at
the new counter value and the reactions of WTU (with its start at counter 0), TBI and OTA to a boundary. -/
opaque reactionsBeforeAccess : Nat → Bool

end Sys2Proof.Config
end

