-- ==== Sys2Proof/Machine/State.lean ====
section
/-!
DEFINITION. The state of the block as plain data: one record per unit that owns state (00_scope.md, Block
overview), the four host ports, the level of RST_N, the queue of waiting commands, and State.reset.
Fields marked MODEL'S OWN are no register of the part: they hold a report on its way between two units, or the
count that free values are applied to (DESIGN CHOICE, log entries 22 and 23).
-/
namespace Sys2Proof.Machine

/-! ## Cycle Timer (chapter 1) -/

inductive RunSel where
  | stop | run
  deriving DecidableEq, Repr

inductive SyncMode where
  | free | follow
  deriving DecidableEq, Repr

/-- The cycle parameters: run, mode, L, P and W (section 1.2). -/
structure CycleParams where
  run : RunSel
  mode : SyncMode
  length : Nat
  prescale : Nat
  window : Nat
  deriving DecidableEq, Repr

inductive Timebase where
  | stopped | acquiring | cycling
  deriving DecidableEq, Repr

/-- The sync sub-state (section 1.4); `unsynced` is the manual's NONE. -/
inductive SyncState where
  | unsynced | locked | holdover | lost
  deriving DecidableEq, Repr

/-- The Cycle Timer's state. `tickPos` and `msPos` are the reference periods that have passed in the current tick
(R1) and in the current millisecond (R17). -/
structure Ctm where
  params : CycleParams
  slot : Option CycleParams
  timebase : Timebase
  counter : Nat
  cycle : BitVec 32
  sync : SyncState
  missed : Nat
  early : Bool
  tickPos : Nat
  msPos : Nat
  deriving DecidableEq, Repr

/-! ## Window Table Unit (chapter 2) -/

/-- IN is target to region, OUT is region to target. -/
inductive Direction where
  | dirIn | dirOut
  deriving DecidableEq, Repr

inductive AddrMode where
  | fixed | step
  deriving DecidableEq, Repr

/-- A segment record (R21). -/
structure Segment where
  reg : Nat
  count : Nat
  offset : Nat
  mode : AddrMode
  deriving DecidableEq, Repr

inductive Condition where
  | active | orphaned
  deriving DecidableEq, Repr

/-- The window statuses (section 6.5), with NONE for a window never started. -/
inductive WindowStatus where
  | never | done | overrun | targetTimeout | targetFaulted | targetDisabled | noBank | noData
  deriving DecidableEq, Repr

/-- A window record (R20). -/
structure Window where
  id : Nat
  owner : HostId
  start : Nat
  dur : Nat
  target : TargetId
  dir : Direction
  region : RegionId
  divisor : Nat
  phase : Nat
  notify : Bool
  segs : List Segment
  cond : Condition
  lastStatus : WindowStatus
  lastCycle : Word
  deriving DecidableEq, Repr

/-- What a staged edit does (R25): an ADD or CHANGE carries a complete record with its segments. -/
inductive EditOp where
  | add (w : Window)
  | change (w : Window)
  | remove
  deriving DecidableEq, Repr

/-- A staged edit (R25). -/
structure Edit where
  id : Nat
  issuer : HostId
  op : EditOp
  deriving DecidableEq, Repr

/-- An outstanding run (R39, R41): the window announced, the low 16 bits of its cycle number, and the mark set when
its window is removed. -/
structure OutRun where
  id : Nat
  cycle : Word
  removed : Bool
  deriving DecidableEq, Repr

/-- The Window Table Unit's state. The segment store's entries in use are counted from the records (R24).
MODEL'S OWN: `boundaryDue`, a boundary announced by CTM and not yet reacted to; `announceDue`, the start at the
present counter value, if any window has one, not yet announced; `limitClearDue`, AGU's report that the CYCLE
proposal ended, not yet taken; `boundaryCycle`, the low 16 bits of the cycle number of the cycle that began at the last
boundary announced, which EDITS_APPLIED gives (R35). -/
structure Wtu where
  table : List Window
  edits : List Edit
  limit : Option Nat
  runs : List OutRun
  boundaryDue : Bool
  announceDue : Bool
  limitClearDue : Bool
  boundaryCycle : Word
  deriving DecidableEq, Repr

/-! ## Target Bus Interface (chapter 7) -/

/-- A target profile (section 7.3); times in units of 20 ns, the ready timeout in µs. -/
structure Profile where
  setup : Nat
  strobe : Nat
  recovery : Nat
  handshake : Bool
  timeout : Nat
  burst : Bool
  deriving DecidableEq, Repr

/-- One target's whole settings, as a TARGET proposal carries them (R51). -/
structure TargetSettings where
  target : TargetId
  enable : Bool
  profile : Profile
  deriving DecidableEq, Repr

inductive TargetState where
  | disabled | probing | online | faulted
  deriving DecidableEq, Repr

/-- The kind of work an access belongs to (R116). -/
inductive AccessKind where
  | window | request | probe
  deriving DecidableEq, Repr

/-- The phases of an access (R117). -/
inductive Phase where
  | setup | strobe | recovery
  deriving DecidableEq, Repr

/-- The access in progress (R116 to R121): its request, the profile in force when it began, whether it is a burst
continuation, its phase and the units of it that have passed, and whether the ready timeout ended its strobe.
`data` is the word written, or the word taken when a READ's strobe ended. -/
structure Access where
  target : TargetId
  reg : Nat
  write : Bool
  kind : AccessKind
  data : Word
  profile : Profile
  burst : Bool
  phase : Phase
  elapsed : Nat
  timedOut : Bool
  deriving DecidableEq, Repr

/-- The Target Bus Interface's state. `hold` is the reset hold (ACTIVE is true; TRST is asserted exactly then) and
`holdPos` the reference periods since the end of device reset (R130).
MODEL'S OWN: `boundaryDue`, a boundary announced and not yet reacted to. -/
structure Tbi where
  profiles : Vector Profile 8
  states : Vector TargetState 8
  pendingSettings : Option TargetSettings
  access : Option Access
  hold : Bool
  holdPos : Nat
  boundaryDue : Bool
  deriving DecidableEq, Repr

/-! ## Agreement Unit (chapter 3) -/

inductive Contents where
  | cycle (p : CycleParams)
  | target (t : TargetSettings)
  deriving DecidableEq, Repr

/-- The kinds of proposal (R50). -/
inductive PropKind where
  | cycle | target
  deriving DecidableEq, Repr

inductive ProposalState where
  | waiting | agreed
  deriving DecidableEq, Repr

/-- The proposal record (R50); `waiting` is the manual's PENDING. -/
structure Proposal where
  id : Nat
  contents : Contents
  proposer : HostId
  required : HostSet
  accepted : HostSet
  expiry : Nat
  state : ProposalState
  handed : Bool
  deriving DecidableEq, Repr

/-- The outcomes of a proposal (R60). -/
inductive Verdict where
  | agreed | rejected | expired | withdrawn | applied
  deriving DecidableEq, Repr

inductive LeaveCause where
  | leave | portReset
  deriving DecidableEq, Repr

/-- The units to which AGU reports a departure (R47). -/
inductive LeaveUnit where
  | ctm | wtu | rgm | ota | port
  deriving DecidableEq, Repr

/-- A departure that is not complete (R48): its cause and the units that have not yet taken the report. -/
structure Departure where
  cause : LeaveCause
  awaiting : List LeaveUnit
  deriving DecidableEq, Repr

/-- The Agreement Unit's state. The departing set is the hosts with a departure here.
MODEL'S OWN: `handoverDue`, agreed contents on their way to their unit (R61); `appliedDue`, the unit's report that it
has taken them, on its way to AGU (R62). -/
structure Agu where
  members : HostSet
  departing : Vector (Option Departure) 4
  proposal : Option Proposal
  nextId : Nat
  voteTimer : Nat
  lastOutcome : Option (Nat × Verdict)
  handoverDue : Bool
  appliedDue : Bool
  deriving DecidableEq, Repr

/-! ## Region Manager (chapters 4 and 5) -/

/-- Word storage as (word address, word) pairs: addresses strictly rising, no word zero. An address not listed reads
zero, which is what device reset writes to every word (R66, R78). (DEDUCED, log entry 13) -/
abbrev WordMem := List (Nat × Word)

inductive RegionKind where
  | input | output
  deriving DecidableEq, Repr

/-- Who fills a FILLING bank (chapter 5, state table). -/
inductive Filler where
  | engine | writeHandle
  deriving DecidableEq, Repr

/-- The role of a bank (R81). -/
inductive Role where
  | free
  | filling (filler : Filler)
  | published
  | held
  deriving DecidableEq, Repr

/-- A bank record. -/
structure Bank where
  role : Role
  pins : HostSet
  enginePin : Bool
  content : BitVec 32
  deriving DecidableEq, Repr

inductive RetireCause where
  | deleted | ownerLeft
  deriving DecidableEq, Repr

/-- A region record (R68). `retire` is none while DEFINED and the retire cause while RETIRING. The number of banks is the
length of `banks`, 2 or 3. -/
structure Region where
  kind : RegionKind
  owner : HostId
  size : Nat
  base : Nat
  readers : HostSet
  generation : BitVec 32
  retire : Option RetireCause
  banks : List Bank
  deriving DecidableEq, Repr

/-- A host's open access to a bank (R83). -/
structure Handle where
  region : RegionId
  bank : Nat
  generation : BitVec 32
  deriving DecidableEq, Repr

inductive ClaimKind where
  | fill | drain
  deriving DecidableEq, Repr

/-- RGM's engine claim (R82). -/
structure Claim where
  kind : ClaimKind
  region : RegionId
  bank : Nat
  deriving DecidableEq, Repr

/-- The Region Manager's state. A block is FREE when no region's run covers it (R66). -/
structure Rgm where
  regions : Vector (Option Region) 16
  mem : WordMem
  readHandles : Vector (Vector (Option Handle) 4) 4
  writeHandles : Vector (Option Handle) 4
  claim : Option Claim
  deriving DecidableEq, Repr

/-! ## Transfer Engine (chapter 6) -/

inductive EngineState where
  | idle | window | openRun
  deriving DecidableEq, Repr

/-- The execution copy of an announced window (R99). `crossed` is set by a boundary made after the announcement: the
copy's end time is reached then. -/
structure RunCopy where
  id : Nat
  owner : HostId
  notify : Bool
  target : TargetId
  dir : Direction
  region : RegionId
  segs : List Segment
  start : Nat
  endTime : Nat
  cycle : Word
  crossed : Bool
  deriving DecidableEq, Repr

/-- What the engine keeps of a window that has ended otherwise than DONE before its end time: the end time alone (R111,
part 4). `crossed` is set by a boundary, as for a copy. -/
structure SpentEnd where
  endTime : Nat
  crossed : Bool
  deriving DecidableEq, Repr

/-- The engine's claim: the bank granted and, for a drain, the drained generation. -/
structure BankClaim where
  bank : Nat
  generation : BitVec 32
  deriving DecidableEq, Repr

/-- The Transfer Engine's state. The access in progress stands in TBI, the request context in OTA. `spent` is the spent mark:
none is CLEAR, and SET holds the end time that the engine waits for (R111).
`endTaken`: the engine has taken the end time of the running window (R107 to R109). `waiting`: the engine's next access
waits on the reset hold and has not begun (R130). `stopDue`: a boundary was made in state OPEN and its end of open time
is not yet taken; `stopping`: the end of open time is taken and the access in progress is awaited (R141). -/
structure Txe where
  state : EngineState
  ctx : Option RunCopy
  claim : Option BankClaim
  seg : Nat
  word : Nat
  spent : Option SpentEnd
  pendingStart : Option RunCopy
  endTaken : Bool
  waiting : Bool
  stopDue : Bool
  stopping : Bool
  deriving DecidableEq, Repr

/-! ## Open-Time Arbiter (chapter 8) -/

inductive ReqKind where
  | regRead | regWrite | blockRead | blockWrite
  deriving DecidableEq, Repr

/-- A request record (R133). -/
structure Request where
  tag : Nat
  kind : ReqKind
  target : TargetId
  reg : Nat
  count : Nat
  offset : Nat
  mode : AddrMode
  value : Word
  deadline : Nat
  estimate : Nat
  deriving DecidableEq, Repr

/-- The request in progress: its owner, the mark of a former membership (R148), the words done, and the word a REG_READ
has read. -/
structure RunningReq where
  owner : HostId
  req : Request
  former : Bool
  done : Nat
  lastRead : Word
  deriving DecidableEq, Repr

/-- The Open-Time Arbiter's state. MODEL'S OWN: `boundaryDue`. -/
structure Ota where
  queues : Vector (List Request) 4
  running : Option RunningReq
  probes : List TargetId
  probing : Option TargetId
  pointer : HostId
  mailboxes : Vector WordMem 4
  boundaryDue : Bool
  deriving DecidableEq, Repr

/-- The request statuses (R145). -/
inductive ReqStatus where
  | done | aborted | targetTimeout | targetFaulted | targetDisabled | expired | cancelled
  deriving DecidableEq, Repr

/-! ## Host ports (chapter 9) -/

/-- The causes of a target's change of state (R128). -/
inductive TargetCause where
  | accessTimeout | probeOk | probeTimeout | restore | enable | disable
  deriving DecidableEq, Repr

/-- An event record (section 9.4), by kind. -/
inductive Event where
  | windowDone (id : Nat) (status : WindowStatus) (cycle : Word) (generation : BitVec 32)
  | requestDone (tag : Nat) (status : ReqStatus) (kind : ReqKind) (target : TargetId) (value : Word)
  | proposal (id : Nat) (contents : Contents) (proposer : HostId) (expiry : Nat)
  | proposalOutcome (id : Nat) (verdict : Verdict) (kind : PropKind) (detail : Nat)
  | joined (host : HostId) (members : HostSet)
  | left (host : HostId) (cause : LeaveCause) (members : HostSet)
  | editsApplied (count : Nat) (cycle : Word)
  | regionFreed (id : RegionId) (cause : RetireCause) (owner : HostId) (base blocks : Nat)
  | targetState (target : TargetId) (now before : TargetState) (cause : TargetCause)
  | syncState (now before : SyncState) (missed : Nat) (cycle : Word)
  | syncEarly (counter : Nat) (cycle : Word)
  deriving DecidableEq, Repr

inductive PortState where
  | idle | busy | done
  deriving DecidableEq, Repr

/-- The captured command: its code and the parameter and segment words at the instant of the COMMAND write (R154). -/
structure Captured where
  code : BitVec 8
  params : Vector Word 8
  segs : Vector Word 24
  deriving DecidableEq, Repr

/-- What stands behind an aperture, as RGM last told the port. -/
structure Binding where
  region : RegionId
  bank : Nat
  words : Nat
  deriving DecidableEq, Repr

/-- A host port's state. `resetLow` is the level of PRST_N (low is true), `cmark` the cycle-mark line as CTM commands it,
`dataOut` the word the port last drove on D0 to D15 for an aperture read. -/
structure Port where
  state : PortState
  lastCommand : BitVec 8
  lastStatus : Nat
  params : Vector Word 8
  segArea : Vector Word 24
  captured : Option Captured
  results : Vector Word 8
  events : List Event
  overflow : Bool
  popped : Vector Word 6
  irqEnable : Bool
  accessError : Bool
  issueBusy : Bool
  readBind : Vector (Option Binding) 4
  writeBind : Option Binding
  discard : Bool
  cmark : Bool
  resetLow : Bool
  dataOut : Word
  deriving DecidableEq, Repr

/-! ## The whole -/

/-- The state of the block. `resetLow` is the level of RST_N (low is true). MODEL'S OWN: `sample` counts the uses of free
values, `pending` is the queue of commands that wait, first in first out. -/
structure State where
  ctm : Ctm
  wtu : Wtu
  agu : Agu
  rgm : Rgm
  txe : Txe
  ota : Ota
  tbi : Tbi
  ports : Vector Port 4
  resetLow : Bool
  sample : Nat
  pending : List Instr
  deriving DecidableEq, Repr

/-- No command of this block stops the machine: the manual gives every command and event of the table an effect in every
state, if only that of a refusal code, a flag, or nothing. The type is empty (safe: nothing can raise it). -/
inductive Fault where
  deriving DecidableEq, Repr

/-- Why a command has no meaning here. -/
inductive Refusal where
  /-- Raised by a rejected arm of exec only, for a command not modelled yet; no arm is rejected now (safe: it stops). -/
  | notModelled (mnemonic : String)
  deriving DecidableEq, Repr

/-! ## Values after device reset -/

/-- R19: run STOP, mode FREE, L 1000, P 64, W 16. -/
def resetParams : CycleParams := ⟨.stop, .free, 1000, 64, 16⟩

/-- Section 7.3, column "After device reset". -/
def resetProfile : Profile := ⟨4, 16, 16, false, 255, false⟩

/-- R19. -/
def resetCtm : Ctm := ⟨resetParams, none, .stopped, 0, 0, .unsynced, 0, false, 0, 0⟩

/-- R43. -/
def resetWtu : Wtu := ⟨[], [], none, [], false, false, false, 0⟩

/-- R65. -/
def resetAgu : Agu := ⟨0, .replicate 4 none, none, 1, 0, none, false, false⟩

/-- R80, R97. -/
def resetRgm : Rgm := ⟨.replicate 16 none, [], .replicate 4 (.replicate 4 none), .replicate 4 none, none⟩

/-- R115. It states no value for the position, which is part of a context: segment 0 and word 0 are a DESIGN CHOICE (log
entry 38). -/
def resetTxe : Txe := ⟨.idle, none, none, 0, 0, none, none, false, false, false, false⟩

/-- R150: the pointer is at host 3, so that host 0 is considered first. -/
def resetOta : Ota := ⟨.replicate 4 [], none, [], none, 3, .replicate 4 [], false⟩

/-- R131: every target DISABLED under the reset profile, the reset hold ACTIVE. -/
def resetTbi : Tbi := ⟨.replicate 8 resetProfile, .replicate 8 .disabled, none, none, true, 0, false⟩

/-- R165. `dataOut` 0 is a DESIGN CHOICE (log entry 3); PRST_N high is what "after device reset every port reads IDLE" needs
(DEDUCED, log entry 2). -/
def resetPort : Port :=
  { state := .idle, lastCommand := 0, lastStatus := 0, params := .replicate 8 0, segArea := .replicate 24 0
    captured := none, results := .replicate 8 0, events := [], overflow := false, popped := .replicate 6 0
    irqEnable := false, accessError := false, issueBusy := false, readBind := .replicate 4 none
    writeBind := none, discard := false, cmark := false, resetLow := false, dataOut := 0 }

/-- The machine right after device reset: RST_N has gone high and the 100 µs of the reset hold have not passed.
(DEDUCED, log entry 2) -/
def State.reset : State :=
  { ctm := resetCtm, wtu := resetWtu, agu := resetAgu, rgm := resetRgm, txe := resetTxe, ota := resetOta
    tbi := resetTbi, ports := .replicate 4 resetPort, resetLow := false, sample := 0, pending := [] }

end Sys2Proof.Machine
end

