-- ==== Sys2Proof/Machine/Ops.lean ====
section
/-!
DEFINITION. The operations every unit shares: replacing one unit's record, posting an event (R156), word storage,
and the questions other units may ask of a unit's state.
-/
namespace Sys2Proof.Machine

/-- What a meaning answers. -/
abbrev Outcome := Host.Outcome State Fault Refusal

/-! ## One unit's record at a time -/

def State.setCtm (s : State) (x : Ctm) : State := { s with ctm := x }
def State.setWtu (s : State) (x : Wtu) : State := { s with wtu := x }
def State.setAgu (s : State) (x : Agu) : State := { s with agu := x }
def State.setRgm (s : State) (x : Rgm) : State := { s with rgm := x }
def State.setTxe (s : State) (x : Txe) : State := { s with txe := x }
def State.setOta (s : State) (x : Ota) : State := { s with ota := x }
def State.setTbi (s : State) (x : Tbi) : State := { s with tbi := x }
def State.setPorts (s : State) (x : Vector Port 4) : State := { s with ports := x }
def State.setSample (s : State) (n : Nat) : State := { s with sample := n }

/-- Port `p` of the part. -/
def State.port (s : State) (p : HostId) : Port := pick s.ports p

/-- The state with port `p` changed by `f`. -/
def State.modPort (s : State) (p : HostId) (f : Port → Port) : State :=
  s.setPorts (put s.ports p (f (s.port p)))

/-- The state with every port changed by `f`, which may look at the port's number. -/
def State.modPorts (s : State) (f : HostId → Port → Port) : State :=
  allHosts.foldl (fun s p => s.modPort p (f p)) s

/-! ## Membership and events -/

/-- Host `h` is a member (R44); every unit reads the member set as AGU holds it. -/
def State.isMember (s : State) (h : HostId) : Bool := s.agu.members.has h

/-- R156: the port appends the record, or drops it and sets the overflow marker when the queue holds 32. -/
def Port.take (e : Event) (p : Port) : Port :=
  if p.events.length < Config.maxEvents then { p with events := p.events ++ [e] }
  else { p with overflow := true }

/-- A unit posts an event to a host only while that host is a member (R156). (DESIGN CHOICE, log entry 21) -/
def post (h : HostId) (e : Event) (s : State) : State :=
  if s.isMember h then s.modPort h (Port.take e) else s

/-- One event to every member of a set. -/
def postTo (hosts : HostSet) (e : Event) (s : State) : State :=
  allHosts.foldl (fun s h => if hosts.has h then post h e s else s) s

/-- One event to every member. -/
def postAll (e : Event) (s : State) : State := allHosts.foldl (fun s h => post h e s) s

/-! ## Word storage -/

/-- The word at an address; an address not listed reads zero. (DEDUCED, log entry 13) -/
def WordMem.read : WordMem → Nat → Word
  | [], _ => 0
  | (k, x) :: m, a => if k = a then x else if a < k then 0 else WordMem.read m a

/-- Put a word in front of the words of higher addresses, unless it is zero. -/
def WordMem.cons (a : Nat) (v : Word) (m : WordMem) : WordMem := if v = 0 then m else (a, v) :: m

/-- Write a word, keeping the canonical form: a zero word leaves no entry. (DEDUCED, log entry 13) -/
def WordMem.write : WordMem → Nat → Word → WordMem
  | [], a, v => WordMem.cons a v []
  | (k, x) :: m, a, v =>
    if a < k then WordMem.cons a v ((k, x) :: m)
    else if a = k then WordMem.cons a v m
    else (k, x) :: WordMem.write m a v

/-- Every entry lies at or above `lo` and below `hi`, addresses rise, and no word is zero. -/
def WordMem.wfFrom : Nat → Nat → WordMem → Bool
  | _, _, [] => true
  | lo, hi, (k, x) :: m => decide (lo ≤ k) && decide (k < hi) && decide (x ≠ 0) && WordMem.wfFrom (k + 1) hi m

/-- The canonical form of a store of `size` words. (DEDUCED, log entry 13) -/
def WordMem.wf (size : Nat) (m : WordMem) : Bool := WordMem.wfFrom 0 size m

/-- The words of buffer memory (R66). -/
def bufferWords : Nat := Config.blocks * Config.blockWords

/-- The words of a mailbox (R78). -/
def mailboxWords : Nat := 256

/-! ## The timebase, as the other units read it (R6) -/

/-- The usable end E of a set of parameters (R2). -/
def usableEnd (p : CycleParams) : Nat :=
  match p.mode with
  | .free => p.length
  | .follow => p.length - p.window

/-- E of the parameters in force. (DESIGN CHOICE, log entry 18) -/
def State.usableEnd (s : State) : Nat := Machine.usableEnd s.ctm.params

/-- The timebase is CYCLING. -/
def State.cycling (s : State) : Bool := s.ctm.timebase == .cycling

/-- The low 16 bits of the cycle number. -/
def State.cycleLow (s : State) : Word := lowWord s.ctm.cycle

/-! ## The window table, as the other units ask about it -/

/-- The end of a window's span (R20). -/
def Window.stop (w : Window) : Nat := w.start + w.dur

/-- The divisor and phase select the cycle (R22). -/
def Window.selected (w : Window) (cycle : BitVec 32) : Bool := decide (cycle.toNat % w.divisor = w.phase)

/-- The window that carries an id in a table. -/
def findWindow (id : Nat) (t : List Window) : Option Window := t.find? (fun w => w.id == id)

/-- The record a staged edit carries. -/
def Edit.record (e : Edit) : Option Window :=
  match e.op with
  | .add w => some w
  | .change w => some w
  | .remove => none

/-- R36: region r is named by a window of the active table or by a staged ADD or CHANGE. -/
def Wtu.names (u : Wtu) (r : RegionId) : Bool :=
  u.table.any (fun w => w.region == r) || u.edits.any (fun e => e.record.any (fun w => w.region == r))

/-- The window is due to run later in this cycle: ACTIVE, selected, its S greater than the counter (R40). -/
def State.runsLater (s : State) (w : Window) : Bool :=
  w.cond == .active && w.selected s.ctm.cycle && decide (s.ctm.counter < w.start)

/-- The smaller of a number and one that may be absent. -/
def minOpt (n : Nat) : Option Nat → Nat
  | none => n
  | some m => min n m

/-- The least start of the windows of a list, if it has any. -/
def leastStart : List Window → Option Nat
  | [] => none
  | w :: t => some (minOpt w.start (leastStart t))

/-- R40: the smallest S greater than the counter among the ACTIVE windows that run in the current cycle, or E if there is
none; E while the timebase is not CYCLING. -/
def nextRunningStart (s : State) : Nat :=
  if s.cycling then (leastStart (s.wtu.table.filter s.runsLater)).getD s.usableEnd else s.usableEnd

/-! ## Free values -/

/-- The state with the count of free values used raised by one. -/
def State.nextSample (s : State) : State := s.setSample (s.sample + 1)

end Sys2Proof.Machine
end

