-- ==== Sys2Proof/Machine/Codes.lean ====
section
/-!
DEFINITION. The numeric codes of section 9.3: statuses and refusals, value codes, the contents form, and the six words
of an event record (section 9.4).
-/
namespace Sys2Proof.Machine

/-! ## Status and refusal codes -/

inductive Status where
  | ok | notMember | badParam | noSuch | notOwner | editPending | retiring | badRange | outsideCycle | overlap
  | noWindowId | noSegments | editListFull | alreadyMember | proposalPending | windowsOutside | noProposal
  | notVoter | alreadyVoted | notProposer | noRegionId | noSpace | regionInUse | notReader | apertureBusy
  | alreadyOpen | noData | notOpen | noBank | notFaulted | tagInUse | queueFull | tooLong | inProgress | badCommand
  deriving DecidableEq, Repr

/-- Section 9.3, status and refusal codes; 23 is not assigned. -/
def Status.code : Status → Nat
  | .ok => 0
  | .notMember => 1
  | .badParam => 2
  | .noSuch => 3
  | .notOwner => 4
  | .editPending => 5
  | .retiring => 6
  | .badRange => 7
  | .outsideCycle => 8
  | .overlap => 9
  | .noWindowId => 10
  | .noSegments => 11
  | .editListFull => 12
  | .alreadyMember => 13
  | .proposalPending => 14
  | .windowsOutside => 15
  | .noProposal => 16
  | .notVoter => 17
  | .alreadyVoted => 18
  | .notProposer => 19
  | .noRegionId => 20
  | .noSpace => 21
  | .regionInUse => 22
  | .notReader => 24
  | .apertureBusy => 25
  | .alreadyOpen => 26
  | .noData => 27
  | .notOpen => 28
  | .noBank => 29
  | .notFaulted => 30
  | .tagInUse => 31
  | .queueFull => 32
  | .tooLong => 33
  | .inProgress => 34
  | .badCommand => 35

/-- A unit's answer to a command: its status and its result words; a refusal has none (R153, R154). -/
structure Reply where
  status : Status
  words : List Word
  deriving DecidableEq, Repr

/-- A refused command has no effect (R154). -/
def refuse (st : Status) (s : State) : State × Reply := (s, ⟨st, []⟩)

/-- An accepted command's answer. -/
def accept (s : State) (words : List Word) : State × Reply := (s, ⟨.ok, words⟩)

/-! ## Value codes -/

def RunSel.code : RunSel → Nat
  | .stop => 0
  | .run => 1

def SyncMode.code : SyncMode → Nat
  | .free => 0
  | .follow => 1

def Direction.code : Direction → Nat
  | .dirIn => 0
  | .dirOut => 1

def AddrMode.code : AddrMode → Nat
  | .fixed => 0
  | .step => 1

def RegionKind.code : RegionKind → Nat
  | .input => 0
  | .output => 1

def PropKind.code : PropKind → Nat
  | .cycle => 0
  | .target => 1

def Condition.code : Condition → Nat
  | .active => 0
  | .orphaned => 1

def LeaveCause.code : LeaveCause → Nat
  | .leave => 0
  | .portReset => 1

def WindowStatus.code : WindowStatus → Nat
  | .never => 0
  | .done => 1
  | .overrun => 2
  | .targetTimeout => 3
  | .targetFaulted => 4
  | .targetDisabled => 5
  | .noBank => 6
  | .noData => 7

def ReqStatus.code : ReqStatus → Nat
  | .done => 1
  | .aborted => 2
  | .targetTimeout => 3
  | .targetFaulted => 4
  | .targetDisabled => 5
  | .expired => 6
  | .cancelled => 7

def ReqKind.code : ReqKind → Nat
  | .regRead => 0
  | .regWrite => 1
  | .blockRead => 2
  | .blockWrite => 3

/-- Staged edit kind: NONE 0, ADD 1, CHANGE 2, REMOVE 3. -/
def EditOp.code : EditOp → Nat
  | .add _ => 1
  | .change _ => 2
  | .remove => 3

def Timebase.code : Timebase → Nat
  | .stopped => 0
  | .acquiring => 1
  | .cycling => 2

def SyncState.code : SyncState → Nat
  | .unsynced => 0
  | .locked => 1
  | .holdover => 2
  | .lost => 3

def Verdict.code : Verdict → Nat
  | .agreed => 1
  | .rejected => 2
  | .expired => 3
  | .withdrawn => 4
  | .applied => 5

def TargetState.code : TargetState → Nat
  | .disabled => 0
  | .probing => 1
  | .online => 2
  | .faulted => 3

def TargetCause.code : TargetCause → Nat
  | .accessTimeout => 0
  | .probeOk => 1
  | .probeTimeout => 2
  | .restore => 3
  | .enable => 4
  | .disable => 5

def Role.code : Role → Nat
  | .free => 0
  | .filling _ => 1
  | .published => 2
  | .held => 3

def RetireCause.code : RetireCause → Nat
  | .deleted => 1
  | .ownerLeft => 2

def ProposalState.code : ProposalState → Nat
  | .waiting => 0
  | .agreed => 1

def PortState.code : PortState → Nat
  | .idle => 0
  | .busy => 1
  | .done => 2

/-- A host's number as a code. -/
def hostCode (h : HostId) : Nat := h.val

/-! ## Contents form (section 9.3, query results) -/

def Contents.kind : Contents → PropKind
  | .cycle _ => .cycle
  | .target _ => .target

def cycleForm (p : CycleParams) : Word × Word × Word :=
  (pack [(0, 1, p.run.code), (1, 1, p.mode.code), (8, 8, p.window)], word p.length, word p.prescale)

def targetForm (target : TargetId) (enable : Bool) (p : Profile) : Word × Word × Word :=
  (pack [(0, 3, target.val), (4, 1, bit enable), (5, 1, bit p.handshake), (6, 1, bit p.burst), (8, 3, p.setup)],
   pack [(0, 8, p.strobe), (8, 8, p.recovery)], word p.timeout)

/-- The three words in which a proposal's contents are read. -/
def Contents.form : Contents → Word × Word × Word
  | .cycle p => cycleForm p
  | .target t => targetForm t.target t.enable t.profile

/-! ## The event record (section 9.4) -/

/-- The six words E0 to E5 of a record. -/
def Event.words (overflow : Bool) : Event → Vector Word 6
  | .windowDone id st cyc gen => #v[head 1, word id, word st.code, cyc, highWord gen, lowWord gen]
  | .requestDone tag st kind target value =>
    #v[head 2, word tag, word st.code, pack [(0, 2, kind.code), (8, 3, target.val)], value, 0]
  | .proposal id c proposer expiry =>
    #v[head 3, word id, pack [(0, 1, c.kind.code), (4, 2, proposer.val), (8, 8, expiry)], c.form.1, c.form.2.1, c.form.2.2]
  | .proposalOutcome id v kind detail => #v[head 4, word id, word v.code, word kind.code, word detail, 0]
  | .joined h members => #v[head 5, word h.val, 0, 0, word members.toNat, 0]
  | .left h cause members => #v[head 5, word h.val, 1, word cause.code, word members.toNat, 0]
  | .editsApplied n cyc => #v[head 6, word n, cyc, 0, 0, 0]
  | .regionFreed id cause owner base blocks =>
    #v[head 7, word id.val, word cause.code, word owner.val, word base, word blocks]
  | .targetState t now before cause => #v[head 8, word t.val, word now.code, word before.code, word cause.code, 0]
  | .syncState now before missed cyc => #v[head 9, 0, word now.code, word before.code, word missed, cyc]
  | .syncEarly counter cyc => #v[head 10, 0, word counter, cyc, 0, 0]
where
  /-- E0: the kind in bits 0 to 7, the overflow flag in bit 15. -/
  head (kind : Nat) : Word := pack [(0, 8, kind), (15, 1, bit overflow)]

end Sys2Proof.Machine
end

