-- ==== Sys2Proof/Machine/Answers.lean ====
section
/-!
DEFINITION. A port taking a command and taking its answer (R153, R154), and what a port reset does to both (R164).
-/
namespace Sys2Proof.Machine

/-- R151: the port takes host accesses, PRST_N and RST_N being high. (DEDUCED, log entry 26) -/
def State.open (s : State) (p : HostId) : Bool := !s.resetLow && !(s.port p).resetLow

/-- R153: a COMMAND write is ignored while the port is BUSY or its discard mark is SET. -/
def Port.engaged (q : Port) : Bool := q.state == .busy || q.discard

/-- The result words in Q0 to Q7, words beyond the result's length 0 (R153). (DEDUCED, log entry 20) -/
def resultWords (ws : List Word) : Vector Word 8 := Vector.ofFn fun i => (ws[i.val]?).getD 0

/-- R153, R164: the owning unit's answer reaches the port. It is discarded if the discard mark is SET.
(DEDUCED, log entry 30) -/
def Port.answer (r : Reply) (q : Port) : Port :=
  if q.discard then { q with discard := false, captured := none }
  else { q with state := .done, results := resultWords r.words, lastStatus := r.status.code, captured := none }

/-- The answer to the command of port `p`. -/
def answer (p : HostId) (r : Reply) (s : State) : State := s.modPort p (Port.answer r)

/-- The command a port holds: its code and the words at this instant (R154). -/
def Port.capture (code : BitVec 8) (q : Port) : Captured := ⟨code, q.params, q.segArea⟩

/-- R153, R154: the port takes a command. -/
def Port.issue (code : BitVec 8) (q : Port) : Port :=
  { q with state := .busy, lastCommand := code, captured := some (q.capture code) }

/-- R163: the issue-while-busy flag becomes SET. -/
def Port.flagBusy (q : Port) : Port := { q with issueBusy := true }

/-- R163: the access-error flag becomes SET. -/
def Port.flagAccess (q : Port) : Port := { q with accessError := true }

/-- The host's access is one that R151, R152 or R161 flags. -/
def accessError (p : HostId) (s : State) : State := s.modPort p Port.flagAccess

/-- A JOIN waits at AGU (R45): the port is BUSY with it. -/
def Port.holdsJoin (q : Port) : Bool :=
  q.state == .busy && !q.discard && q.captured.any fun c => c.code == Cmd.join.code

/-- R164: the discard mark after a port reset. In this model a command that is not answered at once is a LEAVE, which AGU has
taken, or a JOIN that AGU holds, which is withdrawn. A mark already SET stays until its answer arrives.
(DEDUCED, log entry 30) -/
def Port.awaitsAnswer (q : Port) : Bool := q.discard || (q.state == .busy && !q.holdsJoin)

/-- R164: the port's own part of a port reset. Bindings are unbound by the departure's closes at RGM.
(DESIGN CHOICE, log entry 3; DEDUCED, log entry 30) -/
def Port.reset (q : Port) : Port :=
  { resetPort with
    readBind := q.readBind, writeBind := q.writeBind, dataOut := q.dataOut, resetLow := true
    discard := q.awaitsAnswer, captured := if q.awaitsAnswer then q.captured else none }

end Sys2Proof.Machine
end

