-- ==== Sys2Proof/Machine/Operands.lean ====
section
/-!
DEFINITION. The parameters of the host commands, taken from the captured words (R155, section 9.3, packed parameters),
with the range checks that yield BAD_PARAM: each reading answers none exactly where that check fails.
-/
namespace Sys2Proof.Machine

/-- Parameter word P`i` of a captured command. -/
def Captured.p (c : Captured) (i : Fin 8) : Word := pick c.params i

/-- The same, as a number. -/
def Captured.pn (c : Captured) (i : Fin 8) : Nat := (c.p i).toNat

/-- A number below `n`, as an index. -/
def asFin (n v : Nat) : Option (Fin n) := if h : v < n then some ⟨v, h⟩ else none

/-- A code of a two-valued field (value codes). -/
def asBit (v : Nat) : Option Bool := if v = 0 then some false else if v = 1 then some true else none

/-- Segment record `m` of the segment area: register in bits 0 to 3 and address mode in bit 8 of its first word, the count
in the second, the offset in the third (R155). (DEDUCED, log entry 29) -/
def segmentAt (words : Vector Word 24) (m : Fin 8) : Segment :=
  let w (k : Fin 3) : Word := pick words ⟨3 * m.val + k.val, by omega⟩
  { reg := bits (w 0) 0 4
    mode := if bits (w 0) 8 1 = 0 then .fixed else .step
    count := (w 1).toNat
    offset := (w 2).toNat }

/-- R28 check 2 on one segment: count 1 to 256, and for STEP register + count - 1 at most 15. -/
def Segment.inRange (g : Segment) : Bool :=
  decide (g.reg ≤ 15) && decide (1 ≤ g.count) && decide (g.count ≤ 256) &&
    (g.mode == .fixed || decide (g.reg + g.count - 1 ≤ 15))

/-- The segment numbers of the segment area. -/
def segmentNumbers : List (Fin 8) := [0, 1, 2, 3, 4, 5, 6, 7]

/-- The parameters of STAGE_ADD and STAGE_CHANGE. -/
structure WindowParams where
  start : Nat
  dur : Nat
  target : TargetId
  dir : Direction
  region : RegionId
  divisor : Nat
  phase : Nat
  notify : Bool
  segs : List Segment
  deriving DecidableEq, Repr

/-- R28 check 2. (DEDUCED, log entry 29) -/
def windowParams (c : Captured) : Option WindowParams :=
  let n := bits (c.p 2) 8 4
  let segs := (segmentNumbers.take n).map (segmentAt c.segs)
  match asFin 16 (c.pn 3), asFin 8 (bits (c.p 2) 0 3) with
  | some region, some target =>
    if 4 ≤ c.pn 1 ∧ c.pn 4 ∈ [1, 2, 4, 8, 16] ∧ c.pn 5 < c.pn 4 ∧ 1 ≤ n ∧ n ≤ 8 ∧ segs.all Segment.inRange then
      some { start := c.pn 0, dur := c.pn 1, target, dir := if bits (c.p 2) 4 1 = 0 then .dirIn else .dirOut, region
             divisor := c.pn 4, phase := c.pn 5, notify := bits (c.p 2) 5 1 == 1, segs }
    else none
  | _, _ => none

/-- The window id in P0 of STAGE_REMOVE, WITHDRAW_EDIT and QUERY_WINDOW, and in P6 of STAGE_CHANGE: 0 to 63. -/
def windowId (v : Nat) : Option Nat := if v ≤ 63 then some v else none

/-- The cycle parameters of PROPOSE_CYCLE lie in their ranges (R51). -/
def CycleParams.inRange (p : CycleParams) : Bool :=
  decide (64 ≤ p.length) && decide (p.length ≤ 65535) && decide (p.prescale ∈ [1, 2, 4, 8, 16, 32, 64, 128]) &&
    decide (1 ≤ p.window) && decide (p.window ≤ 255) && decide (p.window ≤ p.length / 4)

/-- R52 check 3, first part: run, mode, L, P, W and the expiry, one per word from P0. -/
def cycleParams (c : Captured) : Option (CycleParams × Nat) :=
  match asBit (c.pn 0), asBit (c.pn 1) with
  | some run, some mode =>
    let p : CycleParams :=
      { run := if run then .run else .stop, mode := if mode then .follow else .free
        length := c.pn 2, prescale := c.pn 3, window := c.pn 4 }
    if p.inRange ∧ 1 ≤ c.pn 5 ∧ c.pn 5 ≤ 255 then some (p, c.pn 5) else none
  | _, _ => none

/-- A profile's fields lie in their ranges (R51, section 7.3). -/
def Profile.inRange (p : Profile) : Bool :=
  decide (1 ≤ p.setup) && decide (p.setup ≤ 4) && decide (1 ≤ p.strobe) && decide (p.strobe ≤ 16) &&
    decide (1 ≤ p.recovery) && decide (p.recovery ≤ 16) && decide (1 ≤ p.timeout) && decide (p.timeout ≤ 255)

/-- R53 check 3. (DEDUCED, log entry 29) -/
def targetParams (c : Captured) : Option (TargetSettings × Nat) :=
  match asFin 8 (bits (c.p 0) 0 3) with
  | some target =>
    let p : Profile :=
      { setup := c.pn 1, strobe := c.pn 2, recovery := c.pn 3, handshake := bits (c.p 0) 5 1 == 1
        timeout := c.pn 4, burst := bits (c.p 0) 6 1 == 1 }
    if p.inRange ∧ 1 ≤ c.pn 5 ∧ c.pn 5 ≤ 255 then
      some ({ target, enable := bits (c.p 0) 4 1 == 1, profile := p }, c.pn 5)
    else none
  | none => none

/-- R71 check 2: kind, size, number of banks and reader set. (DEDUCED, log entry 29) -/
def regionParams (c : Captured) : Option (RegionKind × Nat × Nat × HostSet) :=
  match asBit (c.pn 0) with
  | some kind =>
    let readers : HostSet := (c.p 3).extractLsb' 0 4
    if 1 ≤ c.pn 1 ∧ c.pn 1 ≤ 64 ∧ (c.pn 2 = 2 ∨ c.pn 2 = 3) ∧ (kind = true → readers = 0) then
      some (if kind then .output else .input, c.pn 1, c.pn 2, readers)
    else none
  | none => none

/-- A request's kind from its code. -/
def reqKind (v : Nat) : ReqKind :=
  if v = 0 then .regRead else if v = 1 then .regWrite else if v = 2 then .blockRead else .blockWrite

/-- The kinds that move a block through the mailbox. -/
def ReqKind.block : ReqKind → Bool
  | .regRead | .regWrite => false
  | .blockRead | .blockWrite => true

/-- R137 check 2. For REG kinds the mailbox offset and the address mode are not checked and play no part. The estimate is
computed when the request is accepted. (DEDUCED, log entry 29) -/
def submitParams (c : Captured) : Option Request :=
  let kind := reqKind (bits (c.p 1) 0 2)
  let mode : AddrMode := if bits (c.p 1) 4 1 = 0 then .fixed else .step
  let count := c.pn 3
  match asFin 8 (bits (c.p 1) 8 3) with
  | some target =>
    if c.pn 0 ≤ 255 ∧ c.pn 2 ≤ 15 ∧ c.pn 6 ≤ 255 ∧
        (kind.block = false → count = 1) ∧
        (kind.block = true → 1 ≤ count ∧ count ≤ 256 ∧ c.pn 4 + count ≤ 256 ∧ (mode = .step → c.pn 2 + count - 1 ≤ 15)) then
      some { tag := c.pn 0, kind, target, reg := c.pn 2, count
             offset := c.pn 4, mode, value := c.p 5, deadline := c.pn 6, estimate := 0 }
    else none
  | none => none

end Sys2Proof.Machine
end

