-- ==== Sys2Proof/Machine/Regions.lean ====
section
/-!
DEFINITION. The Region Manager's pool and regions (chapter 4): first-fit allocation, defining, deleting, retiring and
freeing regions, and QUERY_REGION.
-/
namespace Sys2Proof.Machine

/-- The sixteen slots of the region table. -/
def allRegions : List RegionId := [0, 1, 2, 3, 4, 5, 6, 7, 8, 9, 10, 11, 12, 13, 14, 15]

/-- The four read apertures, by handle number. -/
def allReads : List (Fin 4) := [0, 1, 2, 3]

/-! ## Region records -/

/-- The region in a slot, if any. -/
def State.region (s : State) (i : RegionId) : Option Region := pick s.rgm.regions i

/-- The state with a slot of the region table replaced. -/
def State.setRegion (s : State) (i : RegionId) (r : Option Region) : State :=
  s.setRgm { s.rgm with regions := put s.rgm.regions i r }

/-- The blocks of a region's run: size × banks. -/
def Region.blocks (r : Region) : Nat := r.size * r.banks.length

/-- The words of one bank: 32 × size (R68). -/
def Region.words (r : Region) : Nat := Config.blockWords * r.size

/-- R68: word w of bank b is this word of buffer memory. -/
def Region.address (r : Region) (b w : Nat) : Nat := Config.blockWords * (r.base + b * r.size) + w

/-- The list with entry `i` changed. -/
def updAt {α : Type} : List α → Nat → (α → α) → List α
  | [], _, _ => []
  | x :: l, 0, f => f x :: l
  | x :: l, i + 1, f => x :: updAt l i f

/-- The region with one bank record changed. -/
def Region.modBank (r : Region) (b : Nat) (f : Bank → Bank) : Region := { r with banks := updAt r.banks b f }

/-- A bank's role is FILLING. -/
def Bank.filling (b : Bank) : Bool :=
  match b.role with
  | .filling _ => true
  | _ => false

/-- A bank carries a pin, host or engine. -/
def Bank.pinned (b : Bank) : Bool := b.pins != 0 || b.enginePin

/-- A bank holds its region: a pin, or FILLING (R72, R74). -/
def Bank.holds (b : Bank) : Bool := b.pinned || b.filling

/-- A region with every bank as DEFINE_REGION leaves it (R71). -/
def freshBank : Bank := ⟨.free, 0, false, 0⟩

/-! ## The block pool (R66, R67) -/

/-- A run of `n` blocks from `b` meets no region's run: every block of it is FREE. (DESIGN CHOICE, log entry 18) -/
def Rgm.runFree (g : Rgm) (b n : Nat) : Bool :=
  allRegions.all fun i =>
    match pick g.regions i with
    | none => true
    | some r => decide (b + n ≤ r.base) || decide (r.base + r.blocks ≤ b)

/-- The lowest block from `b` on, of `fuel` candidates, at which a run of `n` is FREE. -/
def Rgm.searchRun (g : Rgm) (n : Nat) : Nat → Nat → Option Nat
  | 0, _ => none
  | fuel + 1, b => if g.runFree b n then some b else g.searchRun n fuel (b + 1)

/-- R67: first-fit over the 768 blocks. -/
def Rgm.firstFit (g : Rgm) (n : Nat) : Option Nat := g.searchRun n (Config.blocks + 1 - n) 0

/-- The lowest-numbered empty slot (R71). -/
def Rgm.emptySlot (g : Rgm) : Option RegionId := allRegions.find? fun i => (pick g.regions i).isNone

/-! ## Freeing (R74, R75) -/

/-- R74, R75: the slot becomes empty, which frees the run's blocks and leaves their words, and REGION_FREED is posted to
every member. -/
def freeRegion (i : RegionId) (r : Region) (cause : RetireCause) (s : State) : State :=
  postAll (.regionFreed i cause r.owner r.base r.blocks) (s.setRegion i none)

/-- R74: the test made for a RETIRING region whenever one of its holds may have gone. -/
def testFree (i : RegionId) (s : State) : State :=
  match s.region i with
  | some r =>
    match r.retire with
    | some cause => if r.banks.any Bank.holds || s.wtu.names i then s else freeRegion i r cause s
    | none => s
  | none => s

/-- R36: WTU reports each region that was named and is no longer, and RGM makes its test for it, in ascending order of region id
(DESIGN CHOICE, log entry 36). -/
def reportUnnamed (before : Wtu) (s : State) : State :=
  allRegions.foldl (fun s i => if before.names i && !s.wtu.names i then testFree i s else s) s

/-! ## Commands -/

/-- R71. -/
def defineRegion (h : HostId) (c : Captured) (s : State) : State × Reply :=
  if !s.isMember h then refuse .notMember s
  else match regionParams c with
  | none => refuse .badParam s
  | some (kind, size, banks, readers) =>
    match s.rgm.emptySlot with
    | none => refuse .noRegionId s
    | some i =>
      match s.rgm.firstFit (size * banks) with
      | none => refuse .noSpace s
      | some base =>
        let r : Region :=
          { kind, owner := h, size, base
            readers := match kind with
              | .input => HostSet.plus readers h
              | .output => 0
            generation := 0, retire := none, banks := List.replicate banks freshBank }
        accept (s.setRegion i (some r)) [word i.val, word base]

/-- R72; dispositions FREED 0 and RETIRING 1. -/
def deleteRegion (h : HostId) (c : Captured) (s : State) : State × Reply :=
  if !s.isMember h then refuse .notMember s
  else match asFin 16 (c.pn 0) with
  | none => refuse .badParam s
  | some i =>
    match s.region i with
    | none => refuse .noSuch s
    | some r =>
      if r.owner ≠ h ∨ r.retire = some .ownerLeft then refuse .notOwner s
      else if r.retire.isSome then refuse .retiring s
      else if s.wtu.names i then refuse .regionInUse s
      else if r.banks.any Bank.holds then accept (s.setRegion i (some { r with retire := some .deleted })) [1]
      else accept (freeRegion i r .deleted s) [0]

/-- A bank's result word of QUERY_REGION: role, engine pin and pin set. -/
def Bank.queryWord (b : Bank) : Word := pack [(0, 2, b.role.code), (2, 1, bit b.enginePin), (4, 4, b.pins.toNat)]

/-- R79: the third bank of a 2-bank region reads role FREE, no pins, no engine pin. -/
def queryRegion (c : Captured) (s : State) : State × Reply :=
  match asFin 16 (c.pn 0) with
  | none => refuse .badParam s
  | some i =>
    match s.region i with
    | none => refuse .noSuch s
    | some r =>
      let bankWord (b : Nat) : Word := (r.banks[b]?.getD freshBank).queryWord
      let cause := match r.retire with
        | none => 0
        | some k => k.code
      accept s
        [pack [(0, 1, r.kind.code), (2, 2, r.banks.length), (4, 1, bit r.retire.isSome), (5, 2, cause),
               (8, 2, r.owner.val), (12, 4, r.readers.toNat)],
         word r.size, word r.base, highWord r.generation, lowWord r.generation, bankWord 0, bankWord 1, bankWord 2]

end Sys2Proof.Machine
end

