-- ==== Sys2Proof/Machine/Banks.lean ====
section
/-!
DEFINITION. Bank exchange (chapter 5): roles and pins, handles and aperture bindings, publication, the engine's claims
and releases, and RGM's reaction to a departure (R77, R96).
-/
namespace Sys2Proof.Machine

/-! ## Roles -/

/-- R81: the role a bank's pins call for, HELD if any remains and FREE if none does. -/
def Bank.settle (b : Bank) : Bank := { b with role := if b.pinned then .held else .free }

/-- A HELD bank that has lost a pin is settled; a PUBLISHED bank stays PUBLISHED. -/
def Bank.settleHeld (b : Bank) : Bank := if b.role = .held then b.settle else b

/-- The index of the first bank that satisfies a test. -/
def bankIndex (f : Bank → Bool) : List Bank → Option Nat
  | [] => none
  | b :: l => if f b then some 0 else (bankIndex f l).map (· + 1)

/-- The FREE bank with the lowest index. -/
def Region.freeBank (r : Region) : Option Nat := bankIndex (fun b => b.role == .free) r.banks

/-- The PUBLISHED bank. -/
def Region.publishedBank (r : Region) : Option Nat := bankIndex (fun b => b.role == .published) r.banks

/-- The content generation of a bank. -/
def Region.content (r : Region) (b : Nat) : BitVec 32 := ((r.banks[b]?).map Bank.content).getD 0

/-- R70: one publication more; after 0xFFFFFFFF the next generation is 1. -/
def nextGeneration (g : BitVec 32) : BitVec 32 := if g = 0xFFFFFFFF then 1 else g + 1

/-- A publication of bank `b` (R88, R92): the generation rises, is stamped on the bank, the bank becomes PUBLISHED, and
the bank that was PUBLISHED before is settled. -/
def Region.publish (r : Region) (b : Nat) : Region :=
  let g := nextGeneration r.generation
  { r with
    generation := g
    banks := updAt (r.banks.map fun k => if k.role = .published then k.settle else k) b
      fun k => { k with role := .published, content := g } }

/-- The state with a region changed, if the slot holds one. -/
def State.modRegion (s : State) (i : RegionId) (f : Region → Region) : State :=
  match s.region i with
  | some r => s.setRegion i (some (f r))
  | none => s

/-! ## Handles and bindings (R83) -/

def State.readHandle (s : State) (h : HostId) (a : Fin 4) : Option Handle := pick (pick s.rgm.readHandles h) a

def State.writeHandle (s : State) (h : HostId) : Option Handle := pick s.rgm.writeHandles h

/-- Bind or unbind a read handle, and tell the port in the same step. -/
def State.setReadHandle (s : State) (h : HostId) (a : Fin 4) (x : Option Handle) (b : Option Binding) : State :=
  (s.setRgm { s.rgm with readHandles := put s.rgm.readHandles h (put (pick s.rgm.readHandles h) a x) }).modPort h
    fun p => { p with readBind := put p.readBind a b }

/-- Open or close the write handle, and tell the port in the same step. -/
def State.setWriteHandle (s : State) (h : HostId) (x : Option Handle) (b : Option Binding) : State :=
  (s.setRgm { s.rgm with writeHandles := put s.rgm.writeHandles h x }).modPort h fun p => { p with writeBind := b }

/-- R86: the pin is removed, a HELD bank settles, and the handle and its aperture are unbound. -/
def unbindRead (h : HostId) (a : Fin 4) (s : State) : State :=
  match s.readHandle h a with
  | some x =>
    (s.modRegion x.region fun r =>
      r.modBank x.bank fun b => { b with pins := HostSet.minus b.pins h }.settleHeld).setReadHandle h a none none
  | none => s

/-- R89: the FILLING bank becomes FREE with its content generation and words as they are, and W is unbound. -/
def unbindWrite (h : HostId) (s : State) : State :=
  match s.writeHandle h with
  | some x => (s.modRegion x.region fun r => r.modBank x.bank fun b => { b with role := .free }).setWriteHandle h none none
  | none => s

/-! ## Commands of readers and owners -/

/-- A read aperture's number: A0 0 to A3 3. -/
def readAperture (v : Nat) : Option (Fin 4) := asFin 4 v

/-- R85. -/
def openRead (h : HostId) (c : Captured) (s : State) : State × Reply :=
  if !s.isMember h then refuse .notMember s
  else match asFin 16 (c.pn 0), readAperture (c.pn 1) with
  | some i, some a =>
    match s.region i with
    | none => refuse .noSuch s
    | some r =>
      if r.kind ≠ .input then refuse .badParam s
      else if !HostSet.has r.readers h then refuse .notReader s
      else if r.retire.isSome then refuse .retiring s
      else if (s.readHandle h a).isSome then refuse .apertureBusy s
      else if allReads.any (fun k => (s.readHandle h k).any fun x => x.region == i) then refuse .alreadyOpen s
      else match r.publishedBank with
      | none => refuse .noData s
      | some b =>
        let g := r.content b
        let s := s.setRegion i (some (r.modBank b fun k => { k with pins := HostSet.plus k.pins h }))
        accept (s.setReadHandle h a (some ⟨i, b, g⟩) (some ⟨i, b, r.words⟩))
          [word b, highWord g, lowWord g, word r.words]
  | _, _ => refuse .badParam s

/-- R86. -/
def closeRead (h : HostId) (c : Captured) (s : State) : State × Reply :=
  if !s.isMember h then refuse .notMember s
  else match readAperture (c.pn 0) with
  | none => refuse .badParam s
  | some a =>
    match s.readHandle h a with
    | none => refuse .notOpen s
    | some x =>
      accept (testFree x.region (unbindRead h a s)) [word x.region.val, highWord x.generation, lowWord x.generation]

/-- R87: W shows the FREE bank with the lowest index, which becomes FILLING; nothing is copied into it. -/
def openWrite (h : HostId) (c : Captured) (s : State) : State × Reply :=
  if !s.isMember h then refuse .notMember s
  else match asFin 16 (c.pn 0) with
  | none => refuse .badParam s
  | some i =>
    match s.region i with
    | none => refuse .noSuch s
    | some r =>
      if r.kind ≠ .output then refuse .badParam s
      else if r.owner ≠ h ∨ r.retire = some .ownerLeft then refuse .notOwner s
      else if r.retire.isSome then refuse .retiring s
      else if (s.writeHandle h).isSome then refuse .alreadyOpen s
      else match r.freeBank with
      | none => refuse .noBank s
      | some b =>
        let g := r.content b
        let s := s.setRegion i (some (r.modBank b fun k => { k with role := .filling .writeHandle }))
        accept (s.setWriteHandle h (some ⟨i, b, g⟩) (some ⟨i, b, r.words⟩))
          [word i.val, word b, highWord g, lowWord g, word r.words]

/-- R88. -/
def publish (h : HostId) (s : State) : State × Reply :=
  if !s.isMember h then refuse .notMember s
  else match s.writeHandle h with
  | none => refuse .notOpen s
  | some x =>
    let g := nextGeneration (((s.region x.region).map Region.generation).getD 0)
    let s := (s.modRegion x.region fun r => r.publish x.bank).setWriteHandle h none none
    accept (testFree x.region s) [word x.region.val, word x.bank, highWord g, lowWord g]

/-- R89. -/
def abandonWrite (h : HostId) (s : State) : State × Reply :=
  if !s.isMember h then refuse .notMember s
  else match s.writeHandle h with
  | none => refuse .notOpen s
  | some x => accept (testFree x.region (unbindWrite h s)) [word x.region.val, word x.bank]

/-! ## The engine's claims (R90 to R94) -/

/-- R91: the FREE bank with the lowest index becomes FILLING for the engine; none when the claim is refused. -/
def fillClaim (i : RegionId) (s : State) : Option (Nat × State) :=
  match s.region i with
  | none => none
  | some r =>
    match r.freeBank with
    | none => none
    | some b =>
      let s := s.setRegion i (some (r.modBank b fun k => { k with role := .filling .engine }))
      some (b, s.setRgm { s.rgm with claim := some ⟨.fill, i, b⟩ })

/-- R93: the engine pin is set on the PUBLISHED bank; the answer gives its index and content generation. -/
def drainClaim (i : RegionId) (s : State) : Option (Nat × BitVec 32 × State) :=
  match s.region i with
  | none => none
  | some r =>
    match r.publishedBank with
    | none => none
    | some b =>
      let s := s.setRegion i (some (r.modBank b fun k => { k with enginePin := true }))
      some (b, r.content b, s.setRgm { s.rgm with claim := some ⟨.drain, i, b⟩ })

/-- RGM's engine claim becomes NONE. -/
def dropClaim (s : State) : State := s.setRgm { s.rgm with claim := none }

/-- R112: a region's current generation, read from RGM; a free value when no region holds the id any more (log entry 5). -/
def currentGeneration (i : RegionId) (s : State) : BitVec 32 × State :=
  match s.region i with
  | some r => (r.generation, s)
  | none => (Config.goneGeneration s.sample, s.nextSample)

/-- R92, fill complete, on the region and bank of the engine claim; the answer is the new generation. -/
def fillComplete (s : State) : BitVec 32 × State :=
  match s.rgm.claim with
  | none => (0, s)
  | some k =>
    let s := dropClaim (s.modRegion k.region fun r => r.publish k.bank)
    (((s.region k.region).map Region.generation).getD 0, testFree k.region s)

/-- R92, fill discard; the answer is the region's current generation. -/
def fillDiscard (s : State) : BitVec 32 × State :=
  match s.rgm.claim with
  | none => (0, s)
  | some k =>
    let s := dropClaim (s.modRegion k.region fun r => r.modBank k.bank fun b => { b with role := .free })
    (((s.region k.region).map Region.generation).getD 0, testFree k.region s)

/-- R94, drain release. -/
def drainRelease (s : State) : State :=
  match s.rgm.claim with
  | none => s
  | some k =>
    testFree k.region
      (dropClaim (s.modRegion k.region fun r => r.modBank k.bank fun b => { b with enginePin := false }.settleHeld))

/-! ## Words of a bank (R68) -/

/-- Word w of bank b of a region. -/
def bankRead (i : RegionId) (b w : Nat) (s : State) : Word :=
  match s.region i with
  | some r => s.rgm.mem.read (r.address b w)
  | none => 0

/-- Write word w of bank b of a region. (DEDUCED, log entry 13) -/
def bankWrite (i : RegionId) (b w : Nat) (v : Word) (s : State) : State :=
  match s.region i with
  | some r =>
    if r.address b w < bufferWords then s.setRgm { s.rgm with mem := s.rgm.mem.write (r.address b w) v } else s
  | none => s

/-! ## Departure (R77, R96) -/

/-- The departing host holds a handle on the region. -/
def State.hasHandleOn (s : State) (h : HostId) (i : RegionId) : Bool :=
  allReads.any (fun a => (s.readHandle h a).any fun x => x.region == i) ||
    (s.writeHandle h).any fun x => x.region == i

/-- A region of the departing host becomes RETIRING with cause OWNER_LEFT. -/
def retireOwned (h : HostId) (i : RegionId) (s : State) : State :=
  match s.region i with
  | some r => if r.owner = h then s.setRegion i (some { r with retire := some .ownerLeft }) else s
  | none => s

/-- R77: handles closed in the order A0 to A3 then W, owned regions retired, then the test of R74 for every region the
departure touched, in ascending order of region id (DESIGN CHOICE, log entry 36). -/
def rgmLeave (h : HostId) (s : State) : State :=
  let touched := allRegions.filter fun i => (s.region i).any (fun r => r.owner == h) || s.hasHandleOn h i
  let s := allReads.foldl (fun s a => unbindRead h a s) s
  let s := unbindWrite h s
  let s := allRegions.foldl (fun s i => retireOwned h i s) s
  touched.foldl (fun s i => testFree i s) s

end Sys2Proof.Machine
end

