-- ==== Sys2Proof/Machine/WindowTable.lean ====
section
/-!
DEFINITION. The Window Table Unit (chapter 2): the active and the prospective table, the staging commands, the reaction
to a boundary and to a departure, which start is due, the end report, and QUERY_WINDOW.
-/
namespace Sys2Proof.Machine

/-! ## Tables -/

/-- The window entered in its place by S (R23). -/
def insertWindow (w : Window) : List Window → List Window
  | [] => [w]
  | v :: t => if w.start ≤ v.start then w :: v :: t else v :: insertWindow w t

/-- The table without the window of an id. -/
def removeWindow (id : Nat) (t : List Window) : List Window := t.filter fun w => w.id != id

/-- R25: what an edit does to a table. A CHANGE keeps id, owner, condition, last status and last cycle. -/
def applyEdit (t : List Window) (e : Edit) : List Window :=
  match e.op with
  | .add w => insertWindow w t
  | .change w =>
    match findWindow e.id t with
    | some old =>
      insertWindow { w with id := old.id, owner := old.owner, cond := old.cond, lastStatus := old.lastStatus
                            lastCycle := old.lastCycle } (removeWindow e.id t)
    | none => t
  | .remove => removeWindow e.id t

/-- R26: the active table as it would stand with every staged edit applied. (DESIGN CHOICE, log entry 18) -/
def Wtu.prospective (u : Wtu) : List Window := u.edits.foldl applyEdit u.table

/-- R41: the outstanding entries of a window that leaves the table are marked removed. -/
def markRemoved (id : Nat) (runs : List OutRun) : List OutRun :=
  runs.map fun r => if r.id = id then { r with removed := true } else r

/-- One edit applied to the active table. -/
def Wtu.apply (u : Wtu) (e : Edit) : Wtu :=
  { u with
    table := applyEdit u.table e
    runs := match e.op with
      | .remove => markRemoved e.id u.runs
      | .add _ | .change _ => u.runs }

/-- Every ORPHANED window removed (R34, R37). -/
def Wtu.dropOrphans (u : Wtu) : Wtu :=
  { u with
    table := u.table.filter fun w => w.cond == .active
    runs := u.runs.map fun r =>
      if u.table.any (fun w => w.cond == .orphaned && w.id == r.id) then { r with removed := true } else r }

/-- Two spans meet (R23). -/
def Window.overlaps (a b : Window) : Bool := decide (a.start < b.stop) && decide (b.start < a.stop)

/-- R24: the store entries in use, one for each segment held in the active table or by a staged ADD or CHANGE.
(DESIGN CHOICE, log entry 18) -/
def Wtu.segmentsUsed (u : Wtu) : Nat :=
  (u.table.map fun w => w.segs.length).sum +
    (u.edits.map fun e => match e.record with
      | some w => w.segs.length
      | none => 0).sum

/-- R26: Echeck, the smaller of E and the proposed-E limit. (DESIGN CHOICE, log entry 18) -/
def State.echeck (s : State) : Nat := minOpt s.usableEnd s.wtu.limit

/-- The staged edit an id carries. -/
def Wtu.editOn (u : Wtu) (id : Nat) : Option Edit := u.edits.find? fun e => e.id == id

/-- The edit is an ADD. -/
def Edit.isAdd (e : Edit) : Bool :=
  match e.op with
  | .add _ => true
  | .change _ | .remove => false

/-- R28 check 7: an id neither in the active table nor carried by a staged ADD. -/
def Wtu.idFree (u : Wtu) (id : Nat) : Bool :=
  (findWindow id u.table).isNone && !u.edits.any (fun e => e.id == id && e.isAdd)

/-- The lowest free id in 0 to 63. -/
def Wtu.lowestId (u : Wtu) : Option Nat := (List.range 64).find? u.idFree

/-- The id names a window of the active table or a staged ADD; the inner value is its member owner, none for an ORPHANED
window (R29 check 3). -/
def Wtu.ownerOf (u : Wtu) (id : Nat) : Option (Option HostId) :=
  match findWindow id u.table with
  | some w => some (if w.cond = .active then some w.owner else none)
  | none =>
    match u.edits.find? fun e => e.id == id && e.isAdd with
    | some e => some (some e.issuer)
    | none => none

/-! ## Boundary reaction (R34 to R36) -/

/-- R35: one EDITS_APPLIED to each host that had at least one edit applied, with the number of the cycle that the boundary
began. -/
def postEditsApplied (edits : List Edit) (cycle : Word) (s : State) : State :=
  allHosts.foldl
    (fun s h =>
      let n := (edits.filter fun e => e.issuer == h).length
      if n = 0 then s else post h (.editsApplied n cycle) s) s

/-- R34: every staged edit applied in list order, every ORPHANED window removed, EDITS_APPLIED posted, the regions no longer
named reported, and, while CYCLING, the start at counter 0 now due. The announcement of that start, which ends the reaction,
follows in the same step (`wtuBoundary`). (DEDUCED, log entry 40) -/
def wtuReact (s : State) : State :=
  let u := s.wtu
  let v := { (u.edits.foldl Wtu.apply u) with edits := [], boundaryDue := false }.dropOrphans
  reportUnnamed u (postEditsApplied u.edits u.boundaryCycle (s.setWtu { v with announceDue := s.cycling }))

/-- R32: a command that finds the timebase not CYCLING while edits are still listed makes the reaction first. No start is
due then (R39). -/
def wtuCatchUp (s : State) : State := if !s.cycling && !s.wtu.edits.isEmpty then wtuReact s else s

/-! ## Staging commands (section 2.4) -/

/-- The record that the parameters describe. -/
def WindowParams.record (p : WindowParams) (id : Nat) (owner : HostId) : Window :=
  { id, owner, start := p.start, dur := p.dur, target := p.target, dir := p.dir, region := p.region, divisor := p.divisor
    phase := p.phase, notify := p.notify, segs := p.segs, cond := .active, lastStatus := .never, lastCycle := 0 }

/-- R28 checks 3 and 4, on the region and the fit of the segments; none when they pass. -/
def regionChecks (h : HostId) (p : WindowParams) (s : State) : Option Status :=
  match s.region p.region with
  | none => some .noSuch
  | some r =>
    if r.retire.isSome then some .retiring
    else if r.owner ≠ h then some .notOwner
    else if (p.dir == .dirIn) != (r.kind == .input) then some .badParam
    else if p.segs.all (fun g => decide (g.offset + g.count ≤ r.words)) then none
    else some .badRange

/-- R32: the edit is staged while CYCLING (disposition 0), or applied at once (disposition 1). -/
def dispose (e : Edit) (s : State) : State × Nat :=
  if s.cycling then (s.setWtu { s.wtu with edits := s.wtu.edits ++ [e] }, 0)
  else (reportUnnamed s.wtu (s.setWtu (s.wtu.apply e)), 1)

/-- There is room in the staged edit list, or the edit does not enter it. -/
def State.listRoom (s : State) : Bool := !s.cycling || decide (s.wtu.edits.length < Config.maxEdits)

/-- R28, on the state the catch-up of R32 leaves. -/
def stageAddChecked (h : HostId) (c : Captured) (s : State) : State × Reply :=
  if !s.isMember h then refuse .notMember s
  else match windowParams c with
  | none => refuse .badParam s
  | some p =>
    match regionChecks h p s with
    | some st => refuse st s
    | none =>
      if s.echeck < p.start + p.dur then refuse .outsideCycle s
      else if s.wtu.prospective.any (fun w => w.overlaps (p.record 0 h)) then refuse .overlap s
      else match s.wtu.lowestId with
      | none => refuse .noWindowId s
      | some id =>
        if Config.segmentEntries < s.wtu.segmentsUsed + p.segs.length then refuse .noSegments s
        else if !s.listRoom then refuse .editListFull s
        else
          let d := dispose ⟨id, h, .add (p.record id h)⟩ s
          accept d.1 [word id, word d.2]

def stageAdd (h : HostId) (c : Captured) (s : State) : State × Reply := stageAddChecked h c (wtuCatchUp s)

/-- R29 check 8: the entries a CHANGE applied at once gives back. -/
def State.segmentsFreed (s : State) (id : Nat) : Nat :=
  if s.cycling then 0
  else match findWindow id s.wtu.table with
    | some w => w.segs.length
    | none => 0

/-- R29, on the state the catch-up of R32 leaves. -/
def stageChangeChecked (h : HostId) (c : Captured) (s : State) : State × Reply :=
  if !s.isMember h then refuse .notMember s
  else match windowId (c.pn 6), windowParams c with
  | some id, some p =>
    match s.wtu.ownerOf id with
    | none => refuse .noSuch s
    | some owner =>
      if owner ≠ some h then refuse .notOwner s
      else if (s.wtu.editOn id).isSome then refuse .editPending s
      else match regionChecks h p s with
      | some st => refuse st s
      | none =>
        if s.echeck < p.start + p.dur then refuse .outsideCycle s
        else if s.wtu.prospective.any (fun w => w.id != id && w.overlaps (p.record id h)) then refuse .overlap s
        else if Config.segmentEntries + s.segmentsFreed id < s.wtu.segmentsUsed + p.segs.length then refuse .noSegments s
        else if !s.listRoom then refuse .editListFull s
        else
          let d := dispose ⟨id, h, .change (p.record id h)⟩ s
          accept d.1 [word d.2]
  | _, _ => refuse .badParam s

def stageChange (h : HostId) (c : Captured) (s : State) : State × Reply := stageChangeChecked h c (wtuCatchUp s)

/-- R30, on the state the catch-up of R32 leaves. -/
def stageRemoveChecked (h : HostId) (c : Captured) (s : State) : State × Reply :=
  if !s.isMember h then refuse .notMember s
  else match windowId (c.pn 0) with
  | none => refuse .badParam s
  | some id =>
    match s.wtu.ownerOf id with
    | none => refuse .noSuch s
    | some owner =>
      if owner ≠ some h then refuse .notOwner s
      else if (s.wtu.editOn id).isSome then refuse .editPending s
      else if !s.listRoom then refuse .editListFull s
      else
        let d := dispose ⟨id, h, .remove⟩ s
        accept d.1 [word d.2]

def stageRemove (h : HostId) (c : Captured) (s : State) : State × Reply := stageRemoveChecked h c (wtuCatchUp s)

/-- R31 check 5: the active record that a withdrawal restores must still fit the prospective table without the edit. -/
def withdrawFits (id : Nat) (e : Edit) (s : State) : Option Status :=
  if e.isAdd then none
  else match findWindow id s.wtu.table with
  | none => none
  | some w =>
    if s.echeck < w.stop then some .outsideCycle
    else
      let rest := { s.wtu with edits := s.wtu.edits.filter fun x => x.id != id }.prospective
      if rest.any (fun v => v.id != id && v.overlaps w) then some .overlap else none

/-- R31, on the state the catch-up of R32 leaves. -/
def withdrawEditChecked (h : HostId) (c : Captured) (s : State) : State × Reply :=
  if !s.isMember h then refuse .notMember s
  else match windowId (c.pn 0) with
  | none => refuse .badParam s
  | some id =>
    match s.wtu.ownerOf id with
    | none => refuse .noSuch s
    | some owner =>
      if owner ≠ some h then refuse .notOwner s
      else match s.wtu.editOn id with
      | none => refuse .noSuch s
      | some e =>
        match withdrawFits id e s with
        | some st => refuse st s
        | none =>
          accept (reportUnnamed s.wtu (s.setWtu { s.wtu with edits := s.wtu.edits.filter fun x => x.id != id }))
            [word e.op.code]

def withdrawEdit (h : HostId) (c : Captured) (s : State) : State × Reply := withdrawEditChecked h c (wtuCatchUp s)

/-! ## The question of PROPOSE_CYCLE (R27) -/

/-- Every window of the prospective table ends by the proposed E. -/
def Wtu.allEndBy (u : Wtu) (e : Nat) : Bool := u.prospective.all fun w => decide (w.stop ≤ e)

/-! ## A member leaving (R37) -/

/-- The leaver's staged edits taken out and its windows ORPHANED. -/
def Wtu.forget (u : Wtu) (h : HostId) : Wtu :=
  { u with
    edits := u.edits.filter fun e => e.issuer != h
    table := u.table.map fun w => if w.owner = h then { w with cond := .orphaned } else w }

/-- R37: while the timebase is not CYCLING the orphans are removed at once. -/
def wtuLeave (h : HostId) (s : State) : State :=
  let u := s.wtu.forget h
  reportUnnamed s.wtu (s.setWtu (if s.cycling then u else u.dropOrphans))

/-! ## Starts and end reports (R39, R41) -/

/-- R39: the ACTIVE window selected in this cycle whose S the counter has reached, while its start is due. While WTU's reaction
to a boundary is outstanding none is due: the start at counter 0 comes at the end of that reaction. (DEDUCED, log entries 24
and 40) -/
def dueWindow (s : State) : Option Window :=
  if s.cycling && s.wtu.announceDue && !s.wtu.boundaryDue then
    s.wtu.table.find? fun w => w.cond == .active && w.selected s.ctm.cycle && w.start == s.ctm.counter
  else none

/-- R99: the execution copy made when the start announcement reaches the engine. -/
def Window.copy (w : Window) (cycle : Word) : RunCopy :=
  { id := w.id, owner := w.owner, notify := w.notify, target := w.target, dir := w.dir, region := w.region, segs := w.segs
    start := w.start, endTime := w.stop, cycle, crossed := false }

/-- The oldest outstanding entry of an id and cycle value, and the list without it (R41). -/
def takeRun (id : Nat) (cycle : Word) : List OutRun → Option (OutRun × List OutRun)
  | [] => none
  | r :: l =>
    if r.id = id ∧ r.cycle = cycle then some (r, l)
    else (takeRun id cycle l).map fun x => (x.1, r :: x.2)

/-- R41: the status and cycle value written into the window's record. -/
def recordRun (id : Nat) (st : WindowStatus) (cycle : Word) (t : List Window) : List Window :=
  t.map fun w => if w.id = id then { w with lastStatus := st, lastCycle := cycle } else w

/-- R41: the end report. The entry leaves the list; a removed window's report is dropped. The answer, for the engine, is
whether the run's window is still in the table and ACTIVE (R111). -/
def endReport (id : Nat) (st : WindowStatus) (cycle : Word) (u : Wtu) : Bool × Wtu :=
  match takeRun id cycle u.runs with
  | none => (false, u)
  | some (r, rest) =>
    if r.removed then (false, { u with runs := rest })
    else ((findWindow id u.table).any (fun w => w.cond == .active),
          { u with runs := rest, table := recordRun id st cycle u.table })

/-! ## QUERY_WINDOW (R42) -/

/-- The words of a segment record (R155). -/
def Segment.words (g : Segment) : Word × Word × Word :=
  (pack [(0, 4, g.reg), (8, 1, g.mode.code)], word g.count, word g.offset)

/-- Segment record `m` written into the segment area. -/
def putSegment (v : Vector Word 24) (m : Fin 8) (g : Segment) : Vector Word 24 :=
  put (put (put v ⟨3 * m.val, by omega⟩ g.words.1) ⟨3 * m.val + 1, by omega⟩ g.words.2.1) ⟨3 * m.val + 2, by omega⟩
    g.words.2.2

/-- The segments written from S0 onward; the entries beyond them are left as they were. -/
def putSegments (v : Vector Word 24) (segs : List Segment) : Vector Word 24 :=
  (segmentNumbers.zip segs).foldl (fun v x => putSegment v x.1 x.2) v

/-- The record a view shows: ACTIVE the active record, STAGED the record of the staged ADD or CHANGE, with a CHANGE's
condition, last status and last cycle from the active record. -/
def viewRecord (id : Nat) (staged : Bool) (u : Wtu) : Option Window :=
  if staged then
    match u.editOn id with
    | none => none
    | some e =>
      match e.op with
      | .add w => some w
      | .change w =>
        match findWindow id u.table with
        | some old => some { w with cond := old.cond, lastStatus := old.lastStatus, lastCycle := old.lastCycle }
        | none => some w
      | .remove => none
  else findWindow id u.table

/-- The result words of QUERY_WINDOW (section 9.3). -/
def windowWords (w : Window) (u : Wtu) : List Word :=
  let editKind := match u.editOn w.id with
    | some e => e.op.code
    | none => 0
  let outstanding := u.runs.any fun r => r.id == w.id && !r.removed
  [pack [(0, 2, w.owner.val), (2, 1, w.cond.code), (4, 2, editKind), (6, 1, bit outstanding), (7, 1, bit w.notify),
         (8, 1, w.dir.code), (12, 3, w.target.val)],
   word w.start, word w.dur, pack [(0, 4, w.region.val), (4, 4, w.segs.length)], pack [(0, 8, w.divisor), (8, 4, w.phase)],
   word w.lastStatus.code, w.lastCycle]

/-- R42: the segments of the chosen record go into the issuing port's segment area. -/
def queryWindow (h : HostId) (c : Captured) (s : State) : State × Reply :=
  match windowId (c.pn 0), asBit (c.pn 1) with
  | some id, some staged =>
    match viewRecord id staged s.wtu with
    | none => refuse .noSuch s
    | some w =>
      accept (s.modPort h fun p => { p with segArea := putSegments p.segArea w.segs }) (windowWords w s.wtu)
  | _, _ => refuse .badParam s

end Sys2Proof.Machine
end

