-- ==== Sys2Proof/Machine/TargetBus.lean ====
section
/-!
DEFINITION. The Target Bus Interface (chapter 7): beginning an access and ending it, target states and TARGET_STATE,
taking agreed settings, the bus lines, and QUERY_TARGET.
-/
namespace Sys2Proof.Machine

/-! ## Target states -/

def State.target (s : State) (t : TargetId) : TargetState := pick s.tbi.states t

def State.profile (s : State) (t : TargetId) : Profile := pick s.tbi.profiles t

/-- R128: each change of a target's state posts one TARGET_STATE to every member at that instant. -/
def changeTarget (t : TargetId) (now : TargetState) (cause : TargetCause) (s : State) : State :=
  postAll (.targetState t now (s.target t) cause) (s.setTbi { s.tbi with states := put s.tbi.states t now })

/-- R136: TBI appends a target when it makes that target PROBING. Each PROBING target has exactly one probe queued or in
progress (R127), so one that still has a probe is not appended again (DEDUCED, log entry 8). -/
def queueProbe (t : TargetId) (s : State) : State :=
  if s.ota.probes.contains t || s.ota.probing == some t then s
  else s.setOta { s.ota with probes := s.ota.probes ++ [t] }

/-- R136: OTA removes the target from the probe queue if it is there. -/
def dropProbe (t : TargetId) (s : State) : State :=
  s.setOta { s.ota with probes := s.ota.probes.filter fun x => x != t }

/-- R125: the profile replaced whole, then the state set by the enable and the state before. -/
def takeSettings (ts : TargetSettings) (s : State) : State :=
  let t := ts.target
  let before := s.target t
  let s := s.setTbi { s.tbi with profiles := put s.tbi.profiles t ts.profile }
  match ts.enable, before with
  | true, .disabled => queueProbe t (changeTarget t .probing .enable s)
  | true, .probing => s
  | true, .online => s
  | true, .faulted => queueProbe t (changeTarget t .probing .enable s)
  | false, .disabled => s
  | false, .probing => dropProbe t (changeTarget t .disabled .disable s)
  | false, .online => changeTarget t .disabled .disable s
  | false, .faulted => changeTarget t .disabled .disable s

/-! ## Accesses -/

/-- An access request of the engine (R116). -/
structure AccessReq where
  target : TargetId
  reg : Nat
  write : Bool
  kind : AccessKind
  data : Word
  continuing : Bool
  deriving DecidableEq, Repr

/-- R123: TBI begins an access if the target is ONLINE, or if it is a probe and the target is PROBING. -/
def admits (k : AccessKind) (st : TargetState) : Bool := st == .online || (k == .probe && st == .probing)

/-- R119: a burst continuation has no setup phase. -/
def firstPhase (burst : Bool) : Phase := if burst then .strobe else .setup

/-- The access begins under the profile in force at this instant (R117, R119, R120). -/
def beginAccess (q : AccessReq) (s : State) : State :=
  let prof := s.profile q.target
  let burst := q.continuing && prof.burst
  s.setTbi { s.tbi with
    access := some { target := q.target, reg := q.reg, write := q.write, kind := q.kind, data := q.data, profile := prof
                     burst, phase := firstPhase burst, elapsed := 0, timedOut := false } }

/-- R130: while the reset hold is ACTIVE an access that would begin waits. -/
def askAccess (q : AccessReq) (s : State) : State :=
  if s.tbi.hold then s.setTxe { s.txe with waiting := true } else beginAccess q s

/-- The units of recovery after an access's strobe: 1 for a burst continuation (R119). -/
def Access.recoveryUnits (a : Access) : Nat := if a.burst then 1 else a.profile.recovery

/-- R121: the units after which the strobe ends by ready timeout. -/
def Access.timeoutUnits (a : Access) : Nat := Config.periodsPerUs * a.profile.timeout

/-- The strobe ends: for a READ the word on the data lines is taken, or 0 when the ready timeout ended it. -/
def Access.endStrobe (a : Access) (timedOut : Bool) (word : Word) : Access :=
  { a with
    phase := .recovery, elapsed := 0, timedOut
    data := if a.write then a.data else if timedOut then 0 else word }

/-- The word TBI reports for a READ (R117, R121); `word` is what the target drives if the strobe has not ended yet. -/
def Access.readWord (a : Access) (word : Word) : Word :=
  if a.timedOut then 0 else if a.phase = .recovery then a.data else word

/-- The end of an access at TBI, before it is reported: fault entry (R122) and the outcome of a probe (R127). -/
def tbiAccessEnd (a : Access) (s : State) : State :=
  let s := s.setTbi { s.tbi with access := none }
  match a.kind with
  | .probe =>
    if s.target a.target = .probing then
      if a.timedOut then changeTarget a.target .faulted .probeTimeout s else changeTarget a.target .online .probeOk s
    else s
  | .window | .request =>
    if a.timedOut ∧ s.target a.target = .online then changeTarget a.target .faulted .accessTimeout s else s

/-- R121: the ready timeout elapses without READY seen, in an access with handshake ON whose strobe has not ended.
(DESIGN CHOICE, log entries 10 and 11) -/
def readyTimeout (s : State) : State :=
  match s.tbi.access with
  | some a =>
    if a.profile.handshake ∧ a.phase ≠ .recovery then s.setTbi { s.tbi with access := some (a.endStrobe true 0) } else s
  | none => s

/-- What one reference period does to the access in progress (R117 to R121), with READY and the data lines as they are at
its end: either the access goes on, or its recovery has ended. READY asserted only before the least strobe has passed is not
what ends a strobe, so an access that shows it then and never again ends by timeout (DESIGN CHOICE, log entry 39). -/
def Access.period (a : Access) (ready : Bool) (lines : Word) : Option Access :=
  let e := a.elapsed + 1
  match a.phase with
  | .setup =>
    if a.profile.setup ≤ e then some { a with phase := .strobe, elapsed := 0 } else some { a with elapsed := e }
  | .strobe =>
    if a.profile.handshake then
      if a.profile.strobe ≤ e ∧ ready then some (a.endStrobe false lines)
      else if a.timeoutUnits ≤ e then some (a.endStrobe true lines)
      else some { a with elapsed := e }
    else if a.profile.strobe ≤ e then some (a.endStrobe false lines)
    else some { a with elapsed := e }
  | .recovery => if a.recoveryUnits ≤ e then none else some { a with elapsed := e }

/-! ## The bus lines (section 7.1) -/

/-- The lines TBI drives. -/
structure BusLines where
  select : Option TargetId
  reg : Option Nat
  readStrobe : Bool
  writeStrobe : Bool
  data : Option Word
  trst : Bool
  deriving DecidableEq, Repr

/-- R116, R117, R130: what is asserted in each phase. (DESIGN CHOICE, log entry 18; DEDUCED, log entry 32) -/
def busLines (s : State) : BusLines :=
  match s.tbi.access with
  | none => ⟨none, none, false, false, none, s.tbi.hold⟩
  | some a =>
    match a.phase with
    | .recovery => ⟨none, none, false, false, none, s.tbi.hold⟩
    | .setup => ⟨some a.target, some a.reg, false, false, if a.write then some a.data else none, s.tbi.hold⟩
    | .strobe => ⟨some a.target, some a.reg, !a.write, a.write, if a.write then some a.data else none, s.tbi.hold⟩

/-! ## QUERY_TARGET (R132) -/

/-- The target is 0 to 7. -/
def targetNumber (v : Nat) : Option TargetId := asFin 8 v

/-- The pending settings, if they are for this target. -/
def State.pendingFor (s : State) (t : TargetId) : Option TargetSettings :=
  match s.tbi.pendingSettings with
  | some ts => if ts.target = t then some ts else none
  | none => none

def queryTarget (c : Captured) (s : State) : State × Reply :=
  match targetNumber (c.pn 0) with
  | none => refuse .badParam s
  | some t =>
    let now := targetForm t (s.target t != .disabled) (s.profile t)
    let later : Word × Word × Word := match s.pendingFor t with
      | some ts => targetForm t ts.enable ts.profile
      | none => (0, 0, 0)
    accept s
      [pack [(0, 2, (s.target t).code), (4, 1, bit (s.pendingFor t).isSome)], now.1, now.2.1, now.2.2,
       later.1, later.2.1, later.2.2]

end Sys2Proof.Machine
end

