-- ==== Sys2Proof/Machine/Starts.lean ====
section
/-!
DEFINITION. How the Transfer Engine takes a window start and how a window ends (chapter 6): the ending step, the start
checks, and the start taken by an engine that holds nothing.
-/
namespace Sys2Proof.Machine

/-! ## End time and idleness -/

/-- R99: an end time is reached at counter S + D of the cycle of the announcement, or at any boundary made after it. -/
def State.passed (s : State) (endTime : Nat) (crossed : Bool) : Bool := crossed || decide (endTime ≤ s.ctm.counter)

/-- R99: the end time of a copy is reached. -/
def State.reached (s : State) (c : RunCopy) : Bool := s.passed c.endTime c.crossed

/-- R111, part 4: the spent mark is set and of the window context only its end time is kept; the position is 0, 0. (DESIGN CHOICE,
log entry 38) -/
def Txe.spend (t : Txe) (c : RunCopy) : Txe :=
  { t with ctx := none, seg := 0, word := 0, spent := some ⟨c.endTime, c.crossed⟩ }

/-- The engine with nothing held but a pending start; its position is 0, 0. (DESIGN CHOICE, log entry 38) -/
def Txe.cleared (t : Txe) : Txe :=
  { t with state := .idle, ctx := none, claim := none, seg := 0, word := 0, spent := none, endTaken := false
           waiting := false, stopDue := false, stopping := false }

/-- The engine holds nothing but a pending start. -/
def engineRests (s : State) : State := s.setTxe s.txe.cleared

/-! ## The ending step (R111, R112) -/

/-- Part 1: the claim's end reported to RGM; the answer is the generation for WINDOW_DONE (R112). -/
def releaseClaim (st : WindowStatus) (c : RunCopy) (s : State) : BitVec 32 × State :=
  match s.txe.claim with
  | none => currentGeneration c.region s
  | some k =>
    let s := s.setTxe { s.txe with claim := none }
    match c.dir with
    | .dirIn => if st = .done then fillComplete s else fillDiscard s
    | .dirOut => (k.generation, drainRelease s)

/-- Parts 2 and 3: the end report to WTU, and WINDOW_DONE to a member owner when notify is YES and the run's window is still
in the table and ACTIVE. -/
def reportRun (st : WindowStatus) (c : RunCopy) (gen : BitVec 32) (s : State) : State :=
  let r := endReport c.id st c.cycle s.wtu
  let s := s.setWtu r.2
  if c.notify && r.1 then post c.owner (.windowDone c.id st c.cycle gen) s else s

/-- Parts 1 to 3. (DESIGN CHOICE, log entry 21) -/
def endReports (st : WindowStatus) (c : RunCopy) (s : State) : State :=
  let x := releaseClaim st c s
  reportRun st c x.1 x.2

/-- Parts 2 and 3 alone, for a run that holds no claim and whose end leaves the engine's context as it is (R103). -/
def reportUnclaimed (st : WindowStatus) (c : RunCopy) (s : State) : State :=
  let x := currentGeneration c.region s
  reportRun st c x.1 x.2

/-! ## A window's accesses (R105, R106) -/

/-- The register of word i of a segment or request. -/
def wordReg (mode : AddrMode) (reg i : Nat) : Nat :=
  match mode with
  | .fixed => reg
  | .step => reg + i

/-- The access of the word at the position; for OUT the bank word is read at the instant the access begins. -/
def windowAccess (c : RunCopy) (g : Segment) (s : State) : AccessReq :=
  { target := c.target
    reg := wordReg g.mode g.reg s.txe.word
    write := c.dir == .dirOut
    kind := .window
    data := match c.dir, s.txe.claim with
      | .dirOut, some k => bankRead c.region k.bank (g.offset + s.txe.word) s
      | _, _ => 0
    continuing := g.mode == .fixed && decide (0 < s.txe.word) }

/-! ## Taking a start (R100, R103, R104) -/

/-- A failed start check: the window ends at once with its status, no claim and no access, and the spent mark is set; its
end time has not been reached. -/
def failStart (st : WindowStatus) (c : RunCopy) (s : State) : State :=
  let s := reportUnclaimed st c s
  s.setTxe (s.txe.spend c)

/-- The walk begins: TBI is asked for the first access. A window of no segments, which no table holds, ends DONE. -/
def firstWord (c : RunCopy) (s : State) : State :=
  match c.segs[s.txe.seg]? with
  | some g => askAccess (windowAccess c g s) s
  | none => engineRests (endReports .done c s)

/-- R104: the start checks. -/
def startChecks (c : RunCopy) (s : State) : State :=
  match s.target c.target with
  | .disabled => failStart .targetDisabled c s
  | .faulted | .probing => failStart .targetFaulted c s
  | .online =>
    match c.dir with
    | .dirIn =>
      match fillClaim c.region s with
      | none => failStart .noBank c s
      | some (b, s) => firstWord c (s.setTxe { s.txe with claim := some ⟨b, 0⟩ })
    | .dirOut =>
      match drainClaim c.region s with
      | none => failStart .noData c s
      | some (b, g, s) => firstWord c (s.setTxe { s.txe with claim := some ⟨b, g⟩ })

/-- The engine in WINDOW with a context at segment 0, word 0 (R100). -/
def Txe.holding (t : Txe) (c : RunCopy) : Txe :=
  { t.cleared with state := .window, ctx := some c, pendingStart := none }

/-- A start is taken by an engine that holds nothing else: run under R100, or, when its end time has been reached, ended OVERRUN
without being run (R103). An engine left IDLE then tells OTA (`takeStart`). -/
def startRun (c : RunCopy) (s : State) : State :=
  if s.reached c then reportUnclaimed .overrun c (s.setTxe { s.txe.cleared with pendingStart := none })
  else startChecks c (s.setTxe (s.txe.holding c))

/-- R39: WTU announces window `w`: its id joins the outstanding runs, and its start is no longer due. -/
def listRun (w : Window) (s : State) : State :=
  s.setWtu { s.wtu with announceDue := false, runs := s.wtu.runs ++ [⟨w.id, s.cycleLow, false⟩] }

/-- R100: an IDLE engine takes the announcement of the start that is due. (DESIGN CHOICE, log entry 6) -/
def announceToIdle (s : State) : State :=
  match dueWindow s with
  | none => s
  | some w => startRun (w.copy s.cycleLow) (listRun w s)

end Sys2Proof.Machine
end

