-- ==== Sys2Proof/Machine/Arbiter.lean ====
section
/-!
DEFINITION. The Open-Time Arbiter (chapter 8): estimates, open time, the choice and the hand-over, SUBMIT, CANCEL,
QUERY_QUEUE, and OTA's part in a departure.
-/
namespace Sys2Proof.Machine

/-! ## Queues -/

def State.queue (s : State) (h : HostId) : List Request := pick s.ota.queues h

def State.setQueue (s : State) (h : HostId) (q : List Request) : State :=
  s.setOta { s.ota with queues := put s.ota.queues h q }

/-! ## Estimates (R134, R142) -/

/-- Units divided by P and rounded up to whole ticks. -/
def ticksOf (units prescale : Nat) : Nat := (units + prescale - 1) / prescale

/-- The units of an access that is not a burst continuation. -/
def Profile.fullUnits (p : Profile) : Nat := p.setup + p.strobe + p.recovery

/-- R134: the units of a request's words: a word after the first of a FIXED block request under burst ON counts
strobe + 1, every other word setup + strobe + recovery. -/
def requestUnits (r : Request) (p : Profile) : Nat :=
  if r.kind.block && r.mode == .fixed && p.burst then p.fullUnits + (r.count - 1) * (p.strobe + 1)
  else r.count * p.fullUnits

/-- R134. -/
def State.estimate (s : State) (r : Request) : Nat := ticksOf (requestUnits r (s.profile r.target)) s.ctm.params.prescale

/-- R142: a probe's estimate, from the profile and P in force now. -/
def State.probeEstimate (s : State) (t : TargetId) : Nat := ticksOf (s.profile t).fullUnits s.ctm.params.prescale

/-! ## Open time (R138, R140) -/

/-- R140: the remaining open time; none while it is unlimited. A result of 0 or less is no open time. -/
def State.openTime (s : State) : Option Nat := if s.cycling then some (nextRunningStart s - s.ctm.counter) else none

/-- An estimate fits the remaining open time. -/
def State.fits (s : State) (estimate : Nat) : Bool :=
  match s.openTime with
  | none => true
  | some n => decide (0 < n) && decide (estimate ≤ n)

/-- The longest stretch that the windows of a table, in order of start, leave from `from_` to `stop`. -/
def longestStretch (stop : Nat) : Nat → List Window → Nat
  | start, [] => stop - start
  | start, w :: t => max (w.start - start) (longestStretch stop w.stop t)

/-- R138: the longest open stretch of the active table, every window counted as running. -/
def State.longestOpen (s : State) : Nat := longestStretch s.usableEnd 0 s.wtu.table

/-! ## Hand-over (R143, R144) -/

/-- R144: the access of the next word of the request in progress. For BLOCK_WRITE the mailbox word is read at the instant the
access begins. -/
def requestAccess (r : RunningReq) (s : State) : AccessReq :=
  { target := r.req.target
    reg := if r.req.kind.block then wordReg r.req.mode r.req.reg r.done else r.req.reg
    write := r.req.kind == .regWrite || r.req.kind == .blockWrite
    kind := .request
    data := match r.req.kind with
      | .regWrite => r.req.value
      | .blockWrite => (pick s.ota.mailboxes r.owner).read (r.req.offset + r.done)
      | .regRead | .blockRead => 0
    continuing := r.req.kind.block && r.req.mode == .fixed && decide (0 < r.done) }

/-- R127: a probe is one READ of register 0, not marked as continuing. -/
def probeAccess (t : TargetId) : AccessReq :=
  { target := t, reg := 0, write := false, kind := .probe, data := 0, continuing := false }

/-- The engine takes a hand-over: it becomes OPEN. -/
def engineOpens (s : State) : State := s.setTxe { s.txe with state := .openRun }

/-- R100: a start announcement reaches the engine together with a hand-over, and the engine takes the announcement first and
refuses the hand-over. Which comes first is a free value. (DESIGN CHOICE, log entry 6) -/
def State.refusesHandOver (s : State) : Bool := (dueWindow s).isSome && Config.startBeforeChoice s.sample

/-- The state after the free value of a hand-over has been used, where a start is due. (DESIGN CHOICE, log entry 6) -/
def State.offered (s : State) : State := if (dueWindow s).isSome then s.nextSample else s

/-- The record of a request at its hand-over (R143). -/
def Request.run (r : Request) (h : HostId) : RunningReq := { owner := h, req := r, former := false, done := 0, lastRead := 0 }

/-- R143, OTA's part: the request leaves its queue and becomes the request in progress with 0 words done; the pointer moves to
its host. -/
def giveRequest (h : HostId) (r : Request) (s : State) : State :=
  let s := s.setQueue h (s.queue h).tail
  s.setOta { s.ota with running := some (r.run h), pointer := h }

/-- R143, undone: the request returns to the head of its queue and the pointer to the host it named before. -/
def undoRequest (h : HostId) (r : Request) (pointer : HostId) (s : State) : State :=
  let s := s.setQueue h (r :: s.queue h)
  s.setOta { s.ota with running := none, pointer := pointer }

/-- R143: a hand-over of a request. Either the engine becomes OPEN and asks for the first access, or it takes the announcement
that is due first, refuses the hand-over, and OTA undoes the choice. (DESIGN CHOICE, log entry 6) -/
def handRequest (h : HostId) (r : Request) (s : State) : State :=
  let t := giveRequest h r s.offered
  if s.refusesHandOver then announceToIdle (undoRequest h r s.ota.pointer t)
  else askAccess (requestAccess (r.run h) t) (engineOpens t)

/-- R143, OTA's part: the target leaves the probe queue and becomes the probe in progress. -/
def giveProbe (t : TargetId) (s : State) : State :=
  s.setOta { s.ota with probes := s.ota.probes.tail, probing := some t }

/-- R143, undone: the target returns to the head of the probe queue. -/
def undoProbe (t : TargetId) (s : State) : State := s.setOta { s.ota with probing := none, probes := t :: s.ota.probes }

/-- R143: a hand-over of a probe, as of a request. (DESIGN CHOICE, log entry 6) -/
def handProbe (t : TargetId) (s : State) : State :=
  let u := giveProbe t s.offered
  if s.refusesHandOver then announceToIdle (undoProbe t u) else askAccess (probeAccess t) (engineOpens u)

/-! ## The choice (R142) -/

/-- The status with which a request ends against a target that is not ONLINE (R144, R145). -/
def offlineStatus (st : TargetState) : ReqStatus := if st = .disabled then .targetDisabled else .targetFaulted

/-- R147: REQUEST_DONE goes to the owner if it is a member; the value is the word read for a REG_READ that ended DONE, and
the words done for every other ending. -/
def postRequestDone (h : HostId) (r : Request) (st : ReqStatus) (value : Word) (s : State) : State :=
  post h (.requestDone r.tag st r.kind r.target value) s

/-- R145: a queue head whose target is not ONLINE ends at once without bus use, and the pointer moves to its host. -/
def endHead (h : HostId) (r : Request) (s : State) : State :=
  let s := s.setQueue h (s.queue h).tail
  postRequestDone h r (offlineStatus (s.target r.target)) 0 (s.setOta { s.ota with pointer := h })

/-- The hosts in round-robin order, starting with the host after the pointer. -/
def hostOrder (ptr : HostId) : List HostId := [ptr + 1, ptr + 2, ptr + 3, ptr]

/-- What a choice does. -/
inductive Choice where
  | nothing
  | probe (t : TargetId)
  | endAtOnce (h : HostId) (r : Request)
  | request (h : HostId) (r : Request)
  deriving DecidableEq, Repr

/-- R142, part 2, over the hosts in order. -/
def chooseHost (s : State) : List HostId → Choice
  | [] => .nothing
  | h :: hosts =>
    match s.queue h with
    | [] => chooseHost s hosts
    | r :: _ =>
      if s.target r.target ≠ .online then .endAtOnce h r
      else if s.fits r.estimate then .request h r
      else chooseHost s hosts

/-- R142: probes first, only the head of their queue; then the hosts. -/
def decideChoice (s : State) : Choice :=
  match s.ota.probes with
  | t :: _ => if s.fits (s.probeEstimate t) then .probe t else chooseHost s (hostOrder s.ota.pointer)
  | [] => chooseHost s (hostOrder s.ota.pointer)

/-- R123, R136: a probe that TBI refuses because the target admits no probe is over. -/
def skipProbe (s : State) : State := s.setOta { s.ota with probes := s.ota.probes.tail }

/-- A choice, followed at once by a further one when it handed nothing to the engine but served a head.
(DESIGN CHOICE, log entry 31) -/
def choiceLoop : Nat → State → State
  | 0, s => s
  | n + 1, s =>
    match decideChoice s with
    | .nothing => s
    | .probe t => if admits .probe (s.target t) then handProbe t s else choiceLoop n (skipProbe s)
    | .endAtOnce h r => choiceLoop n (endHead h r s)
    | .request h r => handRequest h r s

/-- Everything that a choice may serve; a bound on the choices that follow one another. (DESIGN CHOICE, log entry 31) -/
def State.queuedWork (s : State) : Nat :=
  s.ota.probes.length + (s.queue 0).length + (s.queue 1).length + (s.queue 2).length + (s.queue 3).length

/-- R142: OTA makes a choice if the engine is IDLE. -/
def choice (s : State) : State := if s.txe.state = .idle then choiceLoop (s.queuedWork + 1) s else s

/-! ## Commands -/

/-- R137 check 3: the tag is carried by a queued request of the host, or by its request in progress under its current
membership. -/
def State.tagQueued (s : State) (h : HostId) (tag : Nat) : Bool := (s.queue h).any fun r => r.tag == tag

def State.tagRunning (s : State) (h : HostId) (tag : Nat) : Bool :=
  s.ota.running.any fun r => r.owner == h && !r.former && r.req.tag == tag

/-- R137. -/
def submit (h : HostId) (c : Captured) (s : State) : State × Reply :=
  if !s.isMember h then refuse .notMember s
  else match submitParams c with
  | none => refuse .badParam s
  | some r0 =>
    let r := { r0 with estimate := s.estimate r0 }
    if s.tagQueued h r.tag || s.tagRunning h r.tag then refuse .tagInUse s
    else if Config.maxRequests ≤ (s.queue h).length then refuse .queueFull s
    else if s.cycling && decide (s.longestOpen < r.estimate) then refuse .tooLong s
    else
      accept (choice (s.setQueue h (s.queue h ++ [r]))) [word r.estimate, word ((s.queue h).length + 1)]

/-- The queue without the request of a tag, and that request. -/
def takeTag (tag : Nat) : List Request → Option (Request × List Request)
  | [] => none
  | r :: l => if r.tag = tag then some (r, l) else (takeTag tag l).map fun x => (x.1, r :: x.2)

/-- R139. -/
def cancel (h : HostId) (c : Captured) (s : State) : State × Reply :=
  if !s.isMember h then refuse .notMember s
  else if 255 < c.pn 0 then refuse .badParam s
  else match takeTag (c.pn 0) (s.queue h) with
  | some (r, rest) => accept (choice (postRequestDone h r .cancelled 0 (s.setQueue h rest))) [word r.tag]
  | none => if s.tagRunning h (c.pn 0) then refuse .inProgress s else refuse .noSuch s

/-- R149. The queue and the request in progress are those that OTA holds for the issuer: for a host that has ceased to be a member
(R44) until OTA takes its departure (R47, R148), its old queue and request still (DESIGN CHOICE, log entry 41). The head's word
is 0 when the queue is empty, and the tag's word is 0 when no request is in progress (DESIGN CHOICE, log entry 42). -/
def queryQueue (h : HostId) (s : State) : State × Reply :=
  let q := s.queue h
  let mine := match s.ota.running with
    | some r => if r.owner = h ∧ r.former = false then some r.req.tag else none
    | none => none
  let head := match q with
    | r :: _ => pack [(0, 8, r.tag), (8, 8, r.deadline)]
    | [] => 0
  accept s
    [pack [(0, 4, q.length), (4, 1, bit !q.isEmpty), (5, 1, bit mine.isSome), (6, 1, bit s.ota.probing.isSome),
           (8, 2, s.ota.pointer.val), (12, 4, s.ota.probes.length)],
     head, word (mine.getD 0)]

/-! ## Departure (R148) -/

/-- R148: the queue discarded without an event, the request in progress marked as of a former membership, and a choice. -/
def otaLeave (h : HostId) (s : State) : State :=
  let s := s.setQueue h []
  choice (s.setOta { s.ota with
    running := s.ota.running.map fun r => if r.owner = h then { r with former := true } else r })

/-! ## Deadlines (R146) -/

/-- A queue after one boundary: its deadlines lowered, the expired requests left out. -/
def lowerDeadlines (q : List Request) : List Request :=
  (q.filter fun r => r.deadline != 1).map fun r => { r with deadline := r.deadline - 1 }

/-- The requests of a queue whose deadline goes from 1 to 0. -/
def expiring (q : List Request) : List Request := q.filter fun r => r.deadline == 1

/-- R146, for one host's queue: lowered, and REQUEST_DONE (EXPIRED, 0) posted for each that expires, in queue order. -/
def deadlineStep (h : HostId) (s : State) : State :=
  (expiring (s.queue h)).foldl (fun s r => postRequestDone h r .expired 0 s)
    (s.setQueue h (lowerDeadlines (s.queue h)))

/-- R146: OTA's reaction to a boundary, host 0 to host 3, then a choice. -/
def otaReact (s : State) : State :=
  choice (allHosts.foldl (fun s h => deadlineStep h s) (s.setOta { s.ota with boundaryDue := false }))

/-- The first request that expires in a queue, and the queue without it. -/
def takeExpiring : List Request → Option (Request × List Request)
  | [] => none
  | r :: l => if r.deadline = 1 then some (r, l) else (takeExpiring l).map fun x => (x.1, r :: x.2)

/-- The first host, in host order, with a request that expires at the boundary. -/
def firstExpiring (s : State) : List HostId → Option (HostId × Request × List Request)
  | [] => none
  | h :: hosts =>
    match takeExpiring (s.queue h) with
    | some (r, rest) => some (h, r, rest)
    | none => firstExpiring s hosts

/-- R146: the first request that expires at the boundary OTA is reacting to leaves its queue. When no other expires there,
the choice of R142 follows (DESIGN CHOICE, log entries 9 and 10). -/
def expireOne (s : State) : State :=
  if s.ota.boundaryDue then
    match firstExpiring s allHosts with
    | none => s
    | some (h, r, rest) =>
      let s := postRequestDone h r .expired 0 (s.setQueue h rest)
      if (firstExpiring s allHosts).isNone then choice s else s
  else s

end Sys2Proof.Machine
end

