-- ==== Sys2Proof/Machine/Engine.lean ====
section
/-!
DEFINITION. The Transfer Engine (chapter 6, and R141, R144, R145 of chapter 8): the segment walk, the next start, the end of a window,
running requests and probes, and what ends them.
-/
namespace Sys2Proof.Machine

/-! ## Idleness -/

/-- The engine becomes IDLE and tells OTA, which makes its choice (R98, R142). -/
def becomeIdle (s : State) : State := choice (engineRests s)

/-! ## The segment walk (R105, R106) -/

/-- R106: the word read goes into word offset + i of the FILLING bank. -/
def storeWord (c : RunCopy) (w : Word) (s : State) : State :=
  match c.dir, s.txe.claim, c.segs[s.txe.seg]? with
  | .dirIn, some k, some g => bankWrite c.region k.bank (g.offset + s.txe.word) w s
  | _, _, _ => s

/-- The position of the next word, or word 0 of the next segment. -/
def Txe.advance (t : Txe) (segs : List Segment) : Txe :=
  match segs[t.seg]? with
  | some g => if t.word + 1 < g.count then { t with word := t.word + 1 } else { t with seg := t.seg + 1, word := 0 }
  | none => t

/-! ## The next start -/

/-- A start is taken (R100, R103); an engine that it leaves IDLE tells OTA, which makes its choice (R98). -/
def takeStart (c : RunCopy) (s : State) : State := choice (startRun c s)

/-- The engine takes its pending start if one is held, and otherwise becomes IDLE. -/
def nextStart (s : State) : State :=
  match s.txe.pendingStart with
  | some p => takeStart p s
  | none => becomeIdle s

/-- R111: the ending step of the window in the context. -/
def endWindow (st : WindowStatus) (c : RunCopy) (s : State) : State :=
  let s := endReports st c s
  if st = .done ∨ s.txe.endTaken ∨ s.reached c then nextStart s else s.setTxe (s.txe.spend c)

/-- R107: the end guard, the target guard, and then the next access. -/
def windowNext (c : RunCopy) (s : State) : State :=
  if s.txe.endTaken then endWindow .overrun c s
  else match s.target c.target with
  | .disabled => endWindow .targetDisabled c s
  | .faulted | .probing => endWindow .targetFaulted c s
  | .online =>
    match c.segs[s.txe.seg]? with
    | some g => askAccess (windowAccess c g s) s
    | none => endWindow .done c s

/-- TBI's report of the end of a window's access (R105 to R110). -/
def windowAccessEnd (c : RunCopy) (timedOut : Bool) (w : Word) (s : State) : State :=
  if timedOut then endWindow .targetTimeout c s
  else
    let s := storeWord c w s
    let s := s.setTxe (s.txe.advance c.segs)
    if s.txe.endTaken then endWindow .overrun c s
    else if s.txe.seg < c.segs.length then windowNext c s
    else endWindow .done c s

/-! ## Requests and probes in OPEN (R144, R145, R127) -/

/-- R147: the value of REQUEST_DONE. -/
def requestValue (r : RunningReq) (st : ReqStatus) : Word :=
  if r.req.kind = .regRead ∧ st = .done then r.lastRead else word r.done

/-- R145, R147, R148: the request in progress ends; nothing is posted for a request of a former membership. -/
def closeRequest (r : RunningReq) (st : ReqStatus) (s : State) : State :=
  let s := s.setOta { s.ota with running := none }
  if r.former then s else postRequestDone r.owner r.req st (requestValue r st) s

/-- The request in progress ends in the engine, which takes a pending start or becomes IDLE. -/
def endRequest (r : RunningReq) (st : ReqStatus) (s : State) : State := nextStart (closeRequest r st s)

/-- R144: the target guard before each word, then the access. -/
def requestNext (r : RunningReq) (s : State) : State :=
  if s.target r.req.target = .online then askAccess (requestAccess r s) s
  else endRequest r (offlineStatus (s.target r.req.target)) s

/-- R144: what the end of a word's access does with its data. (DEDUCED, log entry 13) -/
def storeRequestWord (r : RunningReq) (w : Word) (s : State) : State :=
  if r.req.kind = .blockRead ∧ r.req.offset + r.done < mailboxWords then
    s.setOta { s.ota with
      mailboxes := put s.ota.mailboxes r.owner ((pick s.ota.mailboxes r.owner).write (r.req.offset + r.done) w) }
  else s

/-- TBI's report of the end of a request's access. -/
def requestAccessEnd (r : RunningReq) (timedOut : Bool) (w : Word) (s : State) : State :=
  if timedOut then endRequest r .targetTimeout s
  else
    let r' := { r with done := r.done + 1, lastRead := if r.req.kind = .regRead then w else r.lastRead }
    let s := storeRequestWord r w s
    let s := s.setOta { s.ota with running := some r' }
    if r.req.count ≤ r'.done then endRequest r' .done s
    else if s.txe.stopping ∨ s.txe.pendingStart.isSome then endRequest r' .aborted s
    else requestNext r' s

/-- The probe in progress is over (R136). -/
def closeProbe (s : State) : State := s.setOta { s.ota with probing := none }

/-- R136: a probe whose access did not begin goes back to the head of the probe queue while its target is PROBING. -/
def returnProbe (t : TargetId) (s : State) : State :=
  if s.target t = .probing then undoProbe t s else closeProbe s

/-- The request or probe ends with no access in progress: a request ABORTED, a probe put back (R101, R130, R141). -/
def withdrawOpen (s : State) : State :=
  match s.ota.running, s.ota.probing with
  | some r, _ => closeRequest r .aborted s
  | none, some t => returnProbe t s
  | none, none => s

/-! ## Start announcements (R98 to R103) -/

/-- R102, R103: a pending start that is displaced ends OVERRUN by parts 2 and 3 of the ending step only. -/
def displacePending (s : State) : State :=
  match s.txe.pendingStart with
  | some p => reportUnclaimed .overrun p s
  | none => s

/-- The announced window held as the pending start. -/
def holdStart (c : RunCopy) (s : State) : State :=
  let s := displacePending s
  s.setTxe { s.txe with pendingStart := some c }

/-- A start announcement reaches the engine. -/
def engineStart (c : RunCopy) (s : State) : State :=
  match s.txe.state with
  | .idle => takeStart c s
  | .openRun => if s.tbi.access.isSome then holdStart c s else takeStart c (withdrawOpen s)
  | .window =>
    if s.txe.spent.isSome then takeStart c s
    else if s.tbi.access.isSome then
      let s := holdStart c s
      s.setTxe { s.txe with endTaken := true }
    else match s.txe.ctx with
      | some old => takeStart c (endReports .overrun old s)
      | none => takeStart c s

/-- R39: WTU announces the start that is due, and the engine takes it, holds it, or ends the work in progress.
(DESIGN CHOICE, log entry 10; DEDUCED, log entry 24) -/
def announceStart (s : State) : State :=
  match dueWindow s with
  | none => s
  | some w => engineStart (w.copy s.cycleLow) (listRun w s)

/-! ## End time, end of open time, end of an access -/

/-- R99, R109, R111: the engine takes the end time of the window in its context, or the one it waits for with the spent mark
SET. (DESIGN CHOICE, log entry 10) -/
def takeEndTime (s : State) : State :=
  match s.txe.state, s.txe.spent, s.txe.ctx with
  | .window, some e, _ => if s.passed e.endTime e.crossed then nextStart s else s
  | .window, none, some c =>
    if !s.reached c || s.txe.endTaken then s
    else if s.tbi.access.isSome then s.setTxe { s.txe with endTaken := true }
    else endWindow .overrun c (s.setTxe { s.txe with waiting := false, endTaken := true })
  | _, _, _ => s

/-- R141: open time has ended for the request or probe in progress. -/
def State.openTimeOver (s : State) : Bool := s.txe.stopDue || (s.cycling && decide (s.usableEnd ≤ s.ctm.counter))

/-- R141: OTA tells the engine to end the request or probe; the access in progress completes first.
(DESIGN CHOICE, log entry 10) -/
def takeOpenEnd (s : State) : State :=
  if s.txe.state = .openRun ∧ s.openTimeOver ∧ ¬ s.txe.stopping then
    if s.tbi.access.isSome then s.setTxe { s.txe with stopDue := false, stopping := true }
    else nextStart (withdrawOpen s)
  else s

/-- An access ends after recovery and the engine takes TBI's report (R117, R121, R122, R127); `w` is the word the target
drives for a READ whose strobe has not ended before. (DESIGN CHOICE, log entries 10, 11 and 21) -/
def accessEnds (w : Word) (s : State) : State :=
  match s.tbi.access with
  | none => s
  | some a =>
    let word := a.readWord w
    let s := tbiAccessEnd a s
    match s.txe.state, s.txe.ctx, s.ota.running with
    | .window, some c, _ => windowAccessEnd c a.timedOut word s
    | .openRun, _, some r => requestAccessEnd r a.timedOut word s
    | .openRun, _, none => nextStart (closeProbe s)
    | _, _, _ => s

/-- R130: the reset hold becomes CLEAR, and an access that waited is judged again at that instant. -/
def clearHold (s : State) : State :=
  let s := s.setTbi { s.tbi with hold := false, holdPos := 0 }
  if s.txe.waiting then
    let s := s.setTxe { s.txe with waiting := false }
    match s.txe.state, s.txe.ctx, s.ota.running, s.ota.probing with
    | .window, some c, _, _ => windowNext c s
    | .openRun, _, some r, _ => requestNext r s
    | .openRun, _, none, some t =>
      if admits .probe (s.target t) then askAccess (probeAccess t) s else nextStart (closeProbe s)
    | _, _, _, _ => s
  else s

end Sys2Proof.Machine
end

