-- ==== Sys2Proof/Machine/Timer.lean ====
section
/-!
DEFINITION. The Cycle Timer (chapter 1): taking parameters, the start of cycle 0, the boundary, ticks and pulses, and
QUERY_TIMEBASE.
-/
namespace Sys2Proof.Machine

/-! ## Taking parameters (R16) -/

/-- R5, R6: cycle 0 starts; the start at counter 0 is due, and is announced before the step that starts the cycle ends (R39:
`syncPulse`, `cycleContents`). Cycle-mark lines that a boundary asserted less than a
tick ago stay asserted until the restarted tick ends (DESIGN CHOICE, log entry 33). -/
def startCycleZero (sync : SyncState) (s : State) : State :=
  (s.setCtm { s.ctm with
    timebase := .cycling, counter := 0, cycle := 0, tickPos := 0, early := false, sync := sync, missed := 0 }).setWtu
      { s.wtu with announceDue := true }

/-- The timebase comes to rest, STOPPED or ACQUIRING. -/
def Ctm.rest (c : Ctm) (t : Timebase) : Ctm :=
  { c with timebase := t, counter := 0, sync := .unsynced, missed := 0, tickPos := 0 }

/-- R16: the five fields in force replaced, and the timebase set by the table. A cycle-mark line still asserted stays so until the
restarted tick ends (DESIGN CHOICE, log entry 33). -/
def takeParams (p : CycleParams) (s : State) : State :=
  let before := s.ctm
  let c := { before with params := p, tickPos := 0 }
  match p.run, p.mode with
  | .stop, _ => s.setCtm (c.rest .stopped)
  | .run, .free =>
    if before.timebase = .cycling then s.setCtm { c with sync := .unsynced, missed := 0 }
    else startCycleZero .unsynced (s.setCtm c)
  | .run, .follow =>
    if before.timebase = .cycling ∧ before.params.mode = .follow then s.setCtm c
    else s.setCtm (c.rest .acquiring)

/-- CTM or TBI tells AGU that it has taken the agreed contents (R15, R124); AGU's reaction is PROPOSAL_APPLIED. -/
def reportApplied (s : State) : State := s.setAgu { s.agu with appliedDue := true }

/-! ## Boundaries (R7, R9, R10, R13) -/

/-- What makes a boundary: CTM's own count, or an accepted pulse. -/
inductive BoundaryCause where
  | count | pulse
  deriving DecidableEq, Repr

/-- R10: the count after one more internal boundary; it stops at 255. -/
def missedAfter (n : Nat) : Nat := if n < 255 then n + 1 else 255

/-- R10: HOLDOVER for a count of 1 to 3, LOST for 4 or more. -/
def syncOfMissed (n : Nat) : SyncState := if n < 4 then .holdover else .lost

/-- The sync sub-state and missed-pulse count by the boundary's cause (R9, R10); in FREE mode they stay as they are. -/
def Ctm.afterCause (c : Ctm) (cause : BoundaryCause) : Ctm :=
  match c.params.mode, cause with
  | .free, _ => c
  | .follow, .pulse => { c with sync := .locked, missed := 0 }
  | .follow, .count => { c with missed := missedAfter c.missed, sync := syncOfMissed (missedAfter c.missed) }

/-- A port's cycle-mark line as CTM commands it. -/
def Port.setMark (b : Bool) (p : Port) : Port := { p with cmark := b }

/-- R14: the cycle-mark line of every port whose host is a member is asserted; the others stay deasserted. -/
def assertMarks (s : State) : State := s.modPorts fun h => Port.setMark (s.isMember h)

/-- R14: every asserted line is released. -/
def releaseMarks (s : State) : State := s.modPorts fun _ => Port.setMark false

/-- R13: the pending slot's contents taken, if it is FULL. -/
def takeSlot (s : State) : State :=
  match s.ctm.slot with
  | some p => reportApplied (takeParams p (s.setCtm { s.ctm with slot := none }))
  | none => s

/-- R12: one SYNC_STATE if the sub-state differs from the one before. -/
def postSync (before : SyncState) (s : State) : State :=
  if s.ctm.sync = before then s else postAll (.syncState s.ctm.sync before s.ctm.missed s.cycleLow) s

/-- R99: a boundary is crossed by a copy announced before it. -/
def RunCopy.cross (c : RunCopy) : RunCopy := { c with crossed := true }

/-- R99, for the end time of a spent window. -/
def SpentEnd.cross (e : SpentEnd) : SpentEnd := { e with crossed := true }

/-- R13: the boundary announced to WTU, TXE, TBI and OTA. WTU, TBI and OTA react when they take it; for the engine the end
times of the windows it holds are reached, and open time ends for what runs in OPEN (R99, R141). -/
def announceBoundary (s : State) : State :=
  let s := s.setWtu { s.wtu with boundaryDue := true, announceDue := false, boundaryCycle := s.cycleLow }
  let s := s.setTbi { s.tbi with boundaryDue := true }
  let s := s.setOta { s.ota with boundaryDue := true }
  s.setTxe { s.txe with
    ctx := s.txe.ctx.map RunCopy.cross
    pendingStart := s.txe.pendingStart.map RunCopy.cross
    spent := s.txe.spent.map SpentEnd.cross
    stopDue := s.txe.state == .openRun }

/-- R13: CTM's part of a boundary. -/
def boundary (cause : BoundaryCause) (s : State) : State :=
  let before := s.ctm.sync
  let c := s.ctm.afterCause cause
  let s := s.setCtm { c with counter := 0, tickPos := 0, cycle := c.cycle + 1, early := false }
  announceBoundary (postSync before (takeSlot (assertMarks s)))

/-! ## Ticks (R1, R6, R7, R14) -/

/-- A tick ends. While CYCLING the counter advances, or, with the counter at L - 1, a boundary is made; in every state the
asserted cycle-mark lines are released and a new tick begins. (DEDUCED, log entry 12) -/
def tickEnds (s : State) : State :=
  let s := releaseMarks s
  if s.cycling then
    if s.ctm.counter + 1 < s.ctm.params.length then
      (s.setCtm { s.ctm with counter := s.ctm.counter + 1, tickPos := 0 }).setWtu { s.wtu with announceDue := true }
    else boundary .count s
  else s.setCtm { s.ctm with tickPos := 0 }

/-- R7: the end of a tick with the counter at L - 1 while CYCLING. (DESIGN CHOICE, log entry 10; DEDUCED, log entry 12) -/
def countEnds (s : State) : State :=
  if s.cycling && decide (s.ctm.params.length ≤ s.ctm.counter + 1) then boundary .count (releaseMarks s) else s

/-! ## Pulses (R8, R11) -/

/-- R11: an early pulse; only the first of a cycle is posted. -/
def earlyPulse (s : State) : State :=
  if s.ctm.early then s
  else postAll (.syncEarly s.ctm.counter s.cycleLow) (s.setCtm { s.ctm with early := true })

/-- R6, R39, R142: what a start of cycle 0 brings about at once, after CTM's own part: OTA makes a choice, and WTU announces the
start at counter 0. Which of a hand-over and the announcement the engine takes first is a free value (DESIGN CHOICE, log entry 6);
while WTU's reaction to a boundary is outstanding the announcement ends that reaction (DEDUCED, log entry 40). -/
def cycleZeroBegins (s : State) : State := announceStart (choice s)

/-- R8; a pulse in ACQUIRING starts cycle 0 (R5). -/
def syncPulse (s : State) : State :=
  match s.ctm.timebase, s.ctm.params.mode with
  | .stopped, _ => s
  | .acquiring, _ => cycleZeroBegins (postSync s.ctm.sync (startCycleZero .locked s))
  | .cycling, .free => s
  | .cycling, .follow =>
    if s.ctm.params.length - s.ctm.params.window ≤ s.ctm.counter then boundary .pulse s else earlyPulse s

/-! ## Agreed parameters arrive (R15) -/

/-- R15: placed in the pending slot while CYCLING, and otherwise taken at once, which may start cycle 0 (R16). -/
def cycleContents (p : CycleParams) (s : State) : State :=
  if s.cycling then s.setCtm { s.ctm with slot := some p }
  else
    let t := reportApplied (takeParams p s)
    if t.cycling then cycleZeroBegins t else t

/-! ## QUERY_TIMEBASE (R18) -/

def queryTimebase (s : State) : State × Reply :=
  let c := s.ctm
  accept s
    [pack [(0, 2, c.timebase.code), (2, 1, c.params.mode.code), (3, 1, c.params.run.code), (4, 1, bit c.slot.isSome),
           (8, 2, c.sync.code)],
     word c.params.length, word c.params.prescale, word c.params.window, word c.counter, highWord c.cycle,
     lowWord c.cycle, word c.missed]

end Sys2Proof.Machine
end

