-- ==== Sys2Proof/Machine/Settings.lean ====
section
/-!
DEFINITION. What joins the Target Bus Interface to the arbiter (chapter 7): taking agreed settings with the choice that a
queued probe calls for, TBI's reaction to a boundary, agreed settings arriving, and TARGET_RESTORE.
-/
namespace Sys2Proof.Machine

/-- R125: the settings queue a probe, their enable being YES and the target DISABLED or FAULTED. -/
def State.startsProbe (s : State) (ts : TargetSettings) : Bool :=
  ts.enable && (s.target ts.target == .disabled || s.target ts.target == .faulted)

/-- R124, R125: TBI takes the settings and tells AGU so. A probe appended to the probe queue makes OTA choose (R142). -/
def takeAgreed (ts : TargetSettings) (s : State) : State :=
  let t := reportApplied (takeSettings ts s)
  if s.startsProbe ts then choice t else t

/-- R124: TBI's whole reaction to a boundary. -/
def tbiReact (s : State) : State :=
  let t := s.setTbi { s.tbi with boundaryDue := false, pendingSettings := none }
  match s.tbi.pendingSettings with
  | some ts => takeAgreed ts t
  | none => t

/-- R124: agreed settings reach TBI; they wait while CYCLING and are taken at once otherwise, judged by the timebase at the instant
they arrive. So settings that arrive after a boundary has ended CYCLING at CTM and before TBI has reacted to that boundary are
taken at once (DESIGN CHOICE, log entry 43). -/
def targetContents (ts : TargetSettings) (s : State) : State :=
  if s.cycling then s.setTbi { s.tbi with pendingSettings := some ts } else takeAgreed ts s

/-- R126. -/
def targetRestore (h : HostId) (c : Captured) (s : State) : State × Reply :=
  if !s.isMember h then refuse .notMember s
  else match targetNumber (c.pn 0) with
  | none => refuse .badParam s
  | some t =>
    if s.target t ≠ .faulted then refuse .notFaulted s
    else accept (choice (queueProbe t (changeTarget t .probing .restore s))) [word TargetState.probing.code]

end Sys2Proof.Machine
end

