-- ==== Sys2Proof/Machine/Agreement.lean ====
section
/-!
DEFINITION. The Agreement Unit (chapter 3): members, departures, proposals, votes, outcomes and the hand-over of agreed
contents.
-/
namespace Sys2Proof.Machine

/-! ## Outcomes (R60) -/

/-- R60: an outcome posted to every member at the instant AGU reaches it. -/
def postOutcome (r : Proposal) (v : Verdict) (detail : Nat) (s : State) : State :=
  postAll (.proposalOutcome r.id v r.contents.kind detail) s

/-- The record is of kind CYCLE. -/
def Proposal.isCycle (r : Proposal) : Bool := r.contents.kind == .cycle

/-- R60: the record ceases to exist with an outcome other than AGREED; the end of a CYCLE proposal is reported to WTU. -/
def endProposal (r : Proposal) (v : Verdict) (detail : Nat) (s : State) : State :=
  let s := postOutcome r v detail s
  let s := s.setAgu { s.agu with proposal := none, lastOutcome := some (r.id, v) }
  if r.isCycle then s.setWtu { s.wtu with limitClearDue := true } else s

/-- R61: the detail of AGREED, WAITING while CYCLING and IMMEDIATE otherwise. -/
def agreedDetail (s : State) : Nat := if s.cycling then 0 else 1

/-- R60, R61: the record becomes AGREED, the outcome is posted, and the contents are on their way to their unit. -/
def becomeAgreed (r : Proposal) (s : State) : State :=
  let s := s.setAgu { s.agu with proposal := some { r with state := .agreed }, handoverDue := true }
  postOutcome r .agreed (agreedDetail s) s

/-- The state with the proposal record replaced. -/
def State.setProposal (s : State) (r : Proposal) : State := s.setAgu { s.agu with proposal := some r }

/-! ## Members (R45, R64) -/

/-- AGU takes a JOIN from a host that is neither a member nor departing. -/
def admitMember (h : HostId) (s : State) : State × Reply :=
  let members := HostSet.plus s.agu.members h
  accept (postAll (.joined h members) (s.setAgu { s.agu with members })) [word members.toNat]

/-- The departure of a host that is not complete, if any (R48). -/
def State.departure (s : State) (h : HostId) : Option Departure := pick s.agu.departing h

def State.setDeparture (s : State) (h : HostId) (d : Option Departure) : State :=
  s.setAgu { s.agu with departing := put s.agu.departing h d }

/-- R45; no answer while AGU holds the JOIN of a departing host. -/
def join (h : HostId) (s : State) : State × Option Reply :=
  if s.isMember h then (s, some ⟨.alreadyMember, []⟩)
  else if (s.departure h).isSome then (s, none)
  else ((admitMember h s).1, some (admitMember h s).2)

/-- The departing set (R64). (DESIGN CHOICE, log entry 18) -/
def State.departingSet (s : State) : HostSet :=
  allHosts.foldl (fun n h => if (s.departure h).isSome then HostSet.plus n h else n) 0

/-- R64. -/
def queryMembers (h : HostId) (s : State) : State × Reply :=
  accept s [pack [(0, 4, s.agu.members.toNat), (4, 4, s.departingSet.toNat), (8, 1, bit (s.isMember h))]]

/-! ## Departures (R47, R48, R59) -/

/-- Every unit AGU reports a departure to (R47). -/
def departureUnits : List LeaveUnit := [.ctm, .wtu, .rgm, .ota, .port]

/-- R59, second rule: the departing host leaves the required set and the accepted set. -/
def Proposal.without (r : Proposal) (h : HostId) : Proposal :=
  { r with required := HostSet.minus r.required h, accepted := HostSet.minus r.accepted h }

/-- The accepted set equals the required set (R55, R59). -/
def Proposal.complete (r : Proposal) : Bool := r.accepted == r.required

/-- R59: the leave rules, with the outcome they call for; `s` has the departure's MEMBER_CHANGE posted already, which the
rules do not read. The detail of WITHDRAWN is PROPOSER_LEFT, 1. -/
def leaveRules (h : HostId) (s : State) : State :=
  match s.agu.proposal with
  | none => s
  | some r =>
    if r.state = .waiting ∧ r.proposer = h then endProposal r .withdrawn 1 s
    else
      let r := r.without h
      if r.state = .waiting ∧ r.complete then becomeAgreed r s else s.setProposal r

/-- R47: AGU takes a departure as one step. -/
def depart (h : HostId) (cause : LeaveCause) (s : State) : State :=
  let members := HostSet.minus s.agu.members h
  let s := (s.setAgu { s.agu with members }).setDeparture h (some ⟨cause, departureUnits⟩)
  leaveRules h (postAll (.left h cause members) s)

/-- R46; the answer is given when the departure is complete. -/
def leave (h : HostId) (s : State) : State × Option Reply :=
  if s.isMember h then (depart h .leave s, none) else (s, some ⟨.notMember, []⟩)

/-- R48: a JOIN of the host held under R45 is taken. -/
def takeHeldJoin (h : HostId) (s : State) : State :=
  if (s.port h).holdsJoin then answer h (admitMember h s).2 (admitMember h s).1 else s

/-- R48: the last confirmation. (DEDUCED, log entry 19) -/
def completeDeparture (h : HostId) (cause : LeaveCause) (s : State) : State :=
  let s := s.setDeparture h none
  let s := match cause with
    | .leave => answer h ⟨.ok, [word s.agu.members.toNat]⟩ s
    | .portReset => s
  takeHeldJoin h s

/-- R48: unit `u` confirms that it has taken the report of a departure. -/
def confirm (h : HostId) (u : LeaveUnit) (s : State) : State :=
  match s.departure h with
  | none => s
  | some d =>
    let rest := d.awaiting.filter fun x => x != u
    if rest.isEmpty then completeDeparture h d.cause s else s.setDeparture h (some { d with awaiting := rest })

/-- Unit `u` has not yet taken the report of this host's departure. -/
def State.awaits (s : State) (h : HostId) (u : LeaveUnit) : Bool := (s.departure h).any fun d => d.awaiting.contains u

/-- R48: a unit that has a report of a departure outstanding takes it, by its own reaction, and confirms it.
(DESIGN CHOICE, log entry 10) -/
def takeReport (h : HostId) (u : LeaveUnit) (react : State → State) (s : State) : State :=
  if s.awaits h u then confirm h u (react s) else s

/-- R14: CTM releases the departed host's cycle-mark line. -/
def ctmLeave (h : HostId) (s : State) : State := s.modPort h (Port.setMark false)

/-- R158: the event queue emptied and the overflow marker cleared. -/
def Port.emptyQueue (p : Port) : Port := { p with events := [], overflow := false }

/-- R158: the port's reaction to the departure of its host. -/
def portLeave (h : HostId) (s : State) : State := s.modPort h Port.emptyQueue

/-! ## Proposing (R52 to R54) -/

/-- R50: ids run from 1 to 65535 and begin again at 1. -/
def nextProposalId (n : Nat) : Nat := if n < 65535 then n + 1 else 1

/-- R54: the record is created, and becomes AGREED at once or PENDING with one PROPOSAL to each required voter. -/
def acceptProposal (h : HostId) (contents : Contents) (expiry : Nat) (s : State) : State × Reply :=
  let r : Proposal :=
    { id := s.agu.nextId, contents, proposer := h, required := HostSet.minus s.agu.members h, accepted := 0, expiry
      state := .waiting, handed := false }
  let s := s.setAgu { s.agu with proposal := some r, nextId := nextProposalId r.id, voteTimer := expiry }
  let s := if r.required = 0 then becomeAgreed r s else postTo r.required (.proposal r.id contents h expiry) s
  accept s [word r.id]

/-- R27: WTU sets its proposed-E limit. AGU's report of the end of an earlier proposal has reached WTU before.
(DESIGN CHOICE, log entry 22) -/
def setLimit (e : Nat) (s : State) : State := s.setWtu { s.wtu with limit := some e, limitClearDue := false }

/-- R52. -/
def proposeCycle (h : HostId) (c : Captured) (s : State) : State × Reply :=
  if !s.isMember h then refuse .notMember s
  else if s.agu.proposal.isSome then refuse .proposalPending s
  else match cycleParams c with
  | none => refuse .badParam s
  | some (p, expiry) =>
    let e := usableEnd p
    match p.run with
    | .stop => if e < s.usableEnd then refuse .badParam s else acceptProposal h (.cycle p) expiry (setLimit e s)
    | .run => if s.wtu.allEndBy e then acceptProposal h (.cycle p) expiry (setLimit e s) else refuse .windowsOutside s

/-- R53. -/
def proposeTarget (h : HostId) (c : Captured) (s : State) : State × Reply :=
  if !s.isMember h then refuse .notMember s
  else if s.agu.proposal.isSome then refuse .proposalPending s
  else match targetParams c with
  | none => refuse .badParam s
  | some (t, expiry) => acceptProposal h (.target t) expiry s

/-! ## Voting, withdrawal and expiry (R55 to R57) -/

/-- A PENDING proposal of an id. -/
def State.waitingProposal (s : State) (id : Nat) : Option Proposal :=
  match s.agu.proposal with
  | some r => if r.state = .waiting ∧ r.id = id then some r else none
  | none => none

/-- R55; the answer's words are PENDING 0, AGREED 1, REJECTED 2 (DESIGN CHOICE, log entry 14). -/
def vote (h : HostId) (c : Captured) (s : State) : State × Reply :=
  if !s.isMember h then refuse .notMember s
  else match asBit (c.pn 1) with
  | none => refuse .badParam s
  | some reject =>
    match s.waitingProposal (c.pn 0) with
    | none => refuse .noProposal s
    | some r =>
      if !HostSet.has r.required h then refuse .notVoter s
      else if HostSet.has r.accepted h then refuse .alreadyVoted s
      else if reject then accept (endProposal r .rejected h.val s) [2]
      else
        let r := { r with accepted := HostSet.plus r.accepted h }
        if r.complete then accept (becomeAgreed r s) [1] else accept (s.setProposal r) [0]

/-- R56; the detail of WITHDRAWN is WITHDRAW, 0. The command has no result words. (DEDUCED, log entry 20) -/
def withdrawProposal (h : HostId) (c : Captured) (s : State) : State × Reply :=
  if !s.isMember h then refuse .notMember s
  else match s.waitingProposal (c.pn 0) with
  | none => refuse .noProposal s
  | some r => if r.proposer ≠ h then refuse .notProposer s else accept (endProposal r .withdrawn 0 s) []

/-- R57: the PENDING proposal whose vote timer reaches 0 ends EXPIRED.
(DESIGN CHOICE, log entry 10; DEDUCED, log entry 12) -/
def expireProposal (s : State) : State :=
  match s.agu.proposal with
  | some r =>
    if r.state = .waiting ∧ s.agu.voteTimer ≤ 1 then
      endProposal r .expired 0 (s.setAgu { s.agu with voteTimer := 0 })
    else s
  | none => s

/-- R57: AGU takes a mark. While a record is PENDING the vote timer falls by one, and at 0 the proposal ends.
(DEDUCED, log entry 12) -/
def takeMark (s : State) : State :=
  match s.agu.proposal with
  | some r =>
    if r.state = .waiting then
      if s.agu.voteTimer ≤ 1 then expireProposal s else s.setAgu { s.agu with voteTimer := s.agu.voteTimer - 1 }
    else s
  | none => s

/-- R17: a millisecond ends, the next begins, and its mark reaches AGU. (DESIGN CHOICE, log entry 11) -/
def msEnds (s : State) : State := takeMark (s.setCtm { s.ctm with msPos := 0 })

/-! ## Hand-over and application (R61, R62, R27) -/

/-- The record's handed field set to YES. -/
def markHanded (r : Proposal) (s : State) : State := s.setProposal { r with handed := true }

/-- R15, R61: agreed cycle parameters reach CTM. (DESIGN CHOICE, log entry 10) -/
def handCycle (s : State) : State :=
  match s.agu.handoverDue, s.agu.proposal with
  | true, some r =>
    match r.contents with
    | .cycle p =>
      let t := s.setAgu { s.agu with handoverDue := false }
      cycleContents p (if s.cycling then markHanded r t else t)
    | .target _ => s
  | _, _ => s

/-- R61, R124: agreed target settings reach TBI. (DESIGN CHOICE, log entry 10) -/
def handTarget (s : State) : State :=
  match s.agu.handoverDue, s.agu.proposal with
  | true, some r =>
    match r.contents with
    | .target ts =>
      let t := s.setAgu { s.agu with handoverDue := false }
      targetContents ts (if s.cycling then markHanded r t else t)
    | .cycle _ => s
  | _, _ => s

/-- R62: AGU takes the owning unit's report that it has taken the contents. (DESIGN CHOICE, log entry 10) -/
def takeApplied (s : State) : State :=
  match s.agu.appliedDue, s.agu.proposal with
  | true, some r => endProposal r .applied 0 (s.setAgu { s.agu with appliedDue := false })
  | _, _ => s

/-- R27: WTU takes AGU's report that the CYCLE proposal ended or was applied. (DESIGN CHOICE, log entry 10) -/
def clearLimit (s : State) : State :=
  if s.wtu.limitClearDue then s.setWtu { s.wtu with limit := none, limitClearDue := false } else s

/-! ## QUERY_PROPOSAL (R63) -/

/-- The vote timer as the query shows it: 0 for an AGREED record. -/
def shownTimer (r : Proposal) (timer : Nat) : Nat :=
  match r.state with
  | .waiting => timer
  | .agreed => 0

/-- The words of the record, Q1 to Q5, and the fields of Q0 that come from it; an absent record reads 0. -/
def recordFields (h : HostId) (r : Proposal) : List (Nat × Nat × Nat) :=
  [(0, 1, 1), (1, 1, r.state.code), (2, 1, bit r.handed), (3, 1, r.contents.kind.code),
   (4, 1, bit (HostSet.has r.required h)), (5, 1, bit (HostSet.has r.accepted h)), (8, 2, r.proposer.val)]

/-- R63. With the last outcome NONE its id reads 0 (DESIGN CHOICE, log entry 35). -/
def queryProposal (h : HostId) (s : State) : State × Reply :=
  let last := match s.agu.lastOutcome with
    | some (id, v) => (id, v.code)
    | none => (0, 0)
  let q0 (fields : List (Nat × Nat × Nat)) : Word := pack (fields ++ [(12, 3, last.2)])
  let tail : List Word := [word last.1, word s.agu.nextId]
  match s.agu.proposal with
  | none => accept s ([q0 [], 0, 0, 0, 0, 0] ++ tail)
  | some r =>
    let f := r.contents.form
    accept s
      ([q0 (recordFields h r), word r.id,
        pack [(0, 4, r.required.toNat), (4, 4, r.accepted.toNat), (8, 8, shownTimer r s.agu.voteTimer)], f.1, f.2.1, f.2.2]
        ++ tail)

end Sys2Proof.Machine
end

