-- ==== Sys2Proof/Machine/Ports.lean ====
section
/-!
DEFINITION. The host ports (chapter 9): reading and writing the register page, issuing a command, popping an event, the
apertures, the mailbox and the lines to the host.
-/
namespace Sys2Proof.Machine

/-! ## Lines and reads -/

/-- R159. -/
def Port.interrupt (q : Port) : Bool := !q.events.isEmpty && q.irqEnable

/-- R160: the line is deasserted while PRST_N or RST_N is low. (DEDUCED, log entry 32) -/
def State.cycleMarkLine (s : State) (p : HostId) : Bool := (s.port p).cmark && s.open p

/-- R159, R165: the interrupt line, deasserted while RST_N or PRST_N is low.
(DESIGN CHOICE, log entry 18; DEDUCED, log entry 32) -/
def State.interruptLine (s : State) (p : HostId) : Bool := (s.port p).interrupt && s.open p

/-- PORT_STATUS: while the discard mark is SET it reads BUSY (R164). -/
def Port.statusWord (q : Port) : Word :=
  let st : PortState := if q.discard then .busy else q.state
  pack [(0, 2, st.code), (2, 6, q.lastStatus), (8, 8, q.lastCommand.toNat)]

/-- R152: the current value of a register of the page. (DESIGN CHOICE, log entries 18 and 25) -/
def pageRead (p : HostId) (r : PageReg) (s : State) : Word :=
  let q := s.port p
  match r with
  | .portId => pack [(0, 2, p.val), (8, 1, bit (s.isMember p))]
  | .version => Config.version
  | .portStatus => q.statusWord
  | .command => 0
  | .param i => pick q.params i
  | .result i => pick q.results i
  | .eventPop => 0
  | .popped i => pick q.popped i
  | .eventCount => word q.events.length
  | .portControl => pack [(0, 1, bit q.irqEnable)]
  | .portFlags => pack [(0, 1, bit q.accessError), (1, 1, bit q.issueBusy)]
  | .segment i => pick q.segArea i

/-- What stands behind an aperture (R161). -/
def Port.binding (q : Port) : Aperture → Option Binding
  | .a0 => pick q.readBind 0
  | .a1 => pick q.readBind 1
  | .a2 => pick q.readBind 2
  | .a3 => pick q.readBind 3
  | .w => q.writeBind

/-- R161: the binding behind a word of an aperture, if the word lies in it. -/
def Port.reach (q : Port) (ap : Aperture) (w : Nat) : Option Binding :=
  match q.binding ap with
  | some b => if w < b.words then some b else none
  | none => none

/-- The word a read of an aperture returns (R161). -/
def apertureWord (p : HostId) (ap : Aperture) (w : Nat) (s : State) : Word :=
  match (s.port p).reach ap w with
  | some b => bankRead b.region b.bank w s
  | none => 0

/-- R151: the word a host read of any address returns. (DESIGN CHOICE, log entry 25) -/
def hostRead (p : HostId) (addr : BitVec 15) (s : State) : Word :=
  if !s.open p then 0
  else match addrClass addr with
  | .page r => pageRead p r s
  | .unnamedOffset => 0
  | .mailbox j => (pick s.ota.mailboxes p).read j.val
  | .aperture ap w => apertureWord p ap w.val s
  | .outside => 0

/-! ## Issuing a command (R153, R154) -/

/-- A reply that is given in the step that takes the command. -/
def atOnce (x : State × Reply) : State × Option Reply := (x.1, some x.2)

/-- The command passed to its owning unit (section 9.3, command codes). -/
def unitCommand (k : Cmd) (h : HostId) (c : Captured) (s : State) : State × Option Reply :=
  match k with
  | .join => Machine.join h s
  | .leave => Machine.leave h s
  | .queryMembers => atOnce (Machine.queryMembers h s)
  | .proposeCycle => atOnce (Machine.proposeCycle h c s)
  | .proposeTarget => atOnce (Machine.proposeTarget h c s)
  | .vote => atOnce (Machine.vote h c s)
  | .withdrawProposal => atOnce (Machine.withdrawProposal h c s)
  | .queryProposal => atOnce (Machine.queryProposal h s)
  | .queryTimebase => atOnce (Machine.queryTimebase s)
  | .stageAdd => atOnce (Machine.stageAdd h c s)
  | .stageChange => atOnce (Machine.stageChange h c s)
  | .stageRemove => atOnce (Machine.stageRemove h c s)
  | .withdrawEdit => atOnce (Machine.withdrawEdit h c s)
  | .queryWindow => atOnce (Machine.queryWindow h c s)
  | .defineRegion => atOnce (Machine.defineRegion h c s)
  | .deleteRegion => atOnce (Machine.deleteRegion h c s)
  | .queryRegion => atOnce (Machine.queryRegion c s)
  | .openRead => atOnce (Machine.openRead h c s)
  | .closeRead => atOnce (Machine.closeRead h c s)
  | .openWrite => atOnce (Machine.openWrite h c s)
  | .publish => atOnce (Machine.publish h s)
  | .abandonWrite => atOnce (Machine.abandonWrite h s)
  | .submit => atOnce (Machine.submit h c s)
  | .cancel => atOnce (Machine.cancel h c s)
  | .queryQueue => atOnce (Machine.queryQueue h s)
  | .targetRestore => atOnce (Machine.targetRestore h c s)
  | .queryTarget => atOnce (Machine.queryTarget c s)

/-- The unit's answer reaches the port, unless AGU holds the command. (DESIGN CHOICE, log entries 7 and 21) -/
def deliver (p : HostId) (x : State × Option Reply) : State :=
  match x.2 with
  | some r => answer p r x.1
  | none => x.1

/-- R153, R154: a port that is IDLE or DONE takes a command. (DESIGN CHOICE, log entry 7) -/
def takeCommand (p : HostId) (k : Cmd) (s : State) : State :=
  deliver p (unitCommand k p ((s.port p).capture k.code) (s.modPort p (Port.issue k.code)))

/-- A write of a command's code to COMMAND (R151, R153). (DESIGN CHOICE, log entry 7) -/
def hostCommand (p : HostId) (k : Cmd) (s : State) : State :=
  if !s.open p then s
  else if (s.port p).engaged then s.modPort p Port.flagBusy
  else takeCommand p k s

/-- R153: the port's own answer to a code that names no command. -/
def Port.badCommand (code : BitVec 8) (q : Port) : Port := (q.issue code).answer ⟨.badCommand, []⟩

/-- A write of any word to COMMAND. (DESIGN CHOICE, log entry 28) -/
def commandWrite (p : HostId) (v : Word) (s : State) : State :=
  match Cmd.ofCode (commandCode v) with
  | some k => hostCommand p k s
  | none =>
    if !s.open p then s
    else if (s.port p).engaged then s.modPort p Port.flagBusy
    else s.modPort p (Port.badCommand (commandCode v))

/-! ## Events, control and flags (R157, R159, R152) -/

/-- R157. -/
def Port.pop (q : Port) : Port :=
  match q.events with
  | [] => { q with popped := .replicate 6 0 }
  | e :: rest => { q with events := rest, popped := e.words q.overflow, overflow := false }

/-- Bit `i` of a written word. -/
def writtenBit (v : Word) (i : Nat) : Bool := v.getLsbD i

/-- R152: each flag whose bit is 1 in the written word is cleared. -/
def Port.clearFlags (v : Word) (q : Port) : Port :=
  { q with accessError := q.accessError && !writtenBit v 0, issueBusy := q.issueBusy && !writtenBit v 1 }

/-- Bit 0 of PORT_CONTROL is the interrupt enable. -/
def Port.setControl (v : Word) (q : Port) : Port := { q with irqEnable := writtenBit v 0 }

/-- A host write that changes the port alone; ignored while the port takes no access (R151). -/
def portWrite (p : HostId) (f : Port → Port) (s : State) : State := if s.open p then s.modPort p f else s

/-! ## Mailbox and apertures (R161, R162) -/

/-- R162. -/
def writeMailbox (p : HostId) (j : Fin 256) (v : Word) (s : State) : State :=
  if s.open p then
    s.setOta { s.ota with mailboxes := put s.ota.mailboxes p ((pick s.ota.mailboxes p).write j.val v) }
  else s

/-- R161: a host read of an aperture; the word goes to the port's data lines. (DESIGN CHOICE, log entries 3 and 25) -/
def readThrough (p : HostId) (ap : Aperture) (w : Nat) (s : State) : State :=
  if !s.open p then s.modPort p fun q => { q with dataOut := 0 }
  else
    let v := apertureWord p ap w s
    let s' := if ((s.port p).reach ap w).isSome then s else accessError p s
    s'.modPort p fun q => { q with dataOut := v }

/-- R161: a host write to an aperture. Only W takes a word. -/
def writeAperture (p : HostId) (ap : Aperture) (w : Nat) (v : Word) (s : State) : State :=
  if !s.open p then s
  else match ap, (s.port p).reach ap w with
  | .w, some b => bankWrite b.region b.bank w v s
  | _, _ => accessError p s

/-! ## Any write (R151, R152) -/

/-- A write to a register of the page. -/
def pageWrite (p : HostId) (r : PageReg) (v : Word) (s : State) : State :=
  match r with
  | .command => commandWrite p v s
  | .param i => portWrite p (fun q => { q with params := put q.params i v }) s
  | .eventPop => portWrite p Port.pop s
  | .portControl => portWrite p (Port.setControl v) s
  | .portFlags => portWrite p (Port.clearFlags v) s
  | .segment i => portWrite p (fun q => { q with segArea := put q.segArea i v }) s
  | .portId | .version | .portStatus | .result _ | .popped _ | .eventCount => portWrite p Port.flagAccess s

/-- R151: the port decodes a host write by its word address. (DESIGN CHOICE, log entry 28) -/
def hostWrite (p : HostId) (addr : BitVec 15) (v : Word) (s : State) : State :=
  match addrClass addr with
  | .page r => pageWrite p r v s
  | .mailbox j => writeMailbox p j v s
  | .aperture ap w => writeAperture p ap w.val v s
  | .unnamedOffset | .outside => portWrite p Port.flagAccess s

end Sys2Proof.Machine
end

