-- ==== Sys2Proof/Machine/Resets.lean ====
section
/-!
DEFINITION. Device reset and port reset (R19, R43, R65, R80, R97, R115, R131, R150, R164, R165) and their ends.
-/
namespace Sys2Proof.Machine

/-- R165: what device reset leaves of a port: the level of its PRST_N line. (DEDUCED, log entry 2) -/
def Port.deviceReset (q : Port) : Port := { resetPort with resetLow := q.resetLow }

/-- RST_N goes low: every unit and every port takes its reset values and nothing is posted. The queue of commands and the
count of free values are the model's own and stay. -/
def deviceReset (s : State) : State :=
  { State.reset with
    ports := s.ports.map Port.deviceReset, resetLow := true, sample := s.sample, pending := s.pending }

/-- RST_N goes high: the tick divider, the millisecond timer and the measure of the 100 µs start (R1, R17, R130).
(DEDUCED, log entry 26) -/
def deviceResetEnd (s : State) : State :=
  if s.resetLow then
    { s with
      resetLow := false, ctm := { s.ctm with tickPos := 0, msPos := 0 }, tbi := { s.tbi with holdPos := 0 } }
  else s

/-- R130: the 100 µs have passed. (DESIGN CHOICE, log entry 11; DEDUCED, log entry 26) -/
def holdEnds (s : State) : State := if s.tbi.hold && !s.resetLow then clearHold s else s

/-- R78: the host's mailbox is cleared. -/
def clearMailbox (h : HostId) (s : State) : State := s.setOta { s.ota with mailboxes := put s.ota.mailboxes h [] }

/-- R164: PRST_N of port `p` goes low. The departure of a member is taken first, and the port's own part follows. -/
def portReset (p : HostId) (s : State) : State :=
  if (s.port p).resetLow then s
  else
    let s := if s.isMember p then depart p .portReset s else s
    clearMailbox p (s.modPort p Port.reset)

/-- PRST_N of port `p` goes high. -/
def portResetEnd (p : HostId) (s : State) : State := s.modPort p fun q => { q with resetLow := false }

end Sys2Proof.Machine
end

