-- ==== Sys2Proof/Machine/Clock.lean ====
section
/-!
DEFINITION. What the reference clock makes happen: the reactions owed at the present counter value, the reports between
units that are on their way, and one reference period (20 ns) of the idle block.
-/
namespace Sys2Proof.Machine

/-! ## Reactions -/

/-- R34: WTU's reaction to a boundary that it has not yet taken, with the announcement of the start due at counter 0 that ends
it. (DESIGN CHOICE, log entry 10; DEDUCED, log entry 40) -/
def wtuBoundary (s : State) : State := if s.wtu.boundaryDue then announceStart (wtuReact s) else s

/-- R124: TBI's. (DESIGN CHOICE, log entry 10) -/
def tbiBoundary (s : State) : State := if s.tbi.boundaryDue then tbiReact s else s

/-- R146: OTA's. (DESIGN CHOICE, log entry 10) -/
def otaBoundary (s : State) : State := if s.ota.boundaryDue then otaReact s else s

/-- Everything that the present counter value and the last boundary call for, which is over before the next tick: WTU's
reaction to a boundary, the start that the counter has reached (R34, R39), the reactions of TBI and OTA, an end time, and the
end of open time (DESIGN CHOICE, log entry 16 fixes the order). -/
def settle (s : State) : State :=
  takeOpenEnd (takeEndTime (otaBoundary (tbiBoundary (announceStart (wtuBoundary s)))))

/-- The end of a tick, after what the counter value before it called for. (DESIGN CHOICE, log entries 11 and 16) -/
def tick (s : State) : State := tickEnds (settle s)

/-- The end of the count: a tick ends with the counter at L - 1 (R7). (DESIGN CHOICE, log entries 11 and 16) -/
def cycleEnds (s : State) : State := countEnds (settle s)

/-! ## Reports on their way -/

/-- A unit's reaction to the departure of a host. -/
def leaveReaction (h : HostId) : LeaveUnit → State → State
  | .ctm => ctmLeave h
  | .wtu => wtuLeave h
  | .rgm => rgmLeave h
  | .ota => otaLeave h
  | .port => portLeave h

/-- Every report of a departure is taken, host 0 first and, for each host, by CTM, WTU, RGM, OTA and the port in this order.
(DESIGN CHOICE, log entry 34) -/
def takeReports (s : State) : State :=
  allHosts.foldl (fun s h => departureUnits.foldl (fun s u => takeReport h u (leaveReaction h u) s) s) s

/-- Hand-overs, applications, the limit and departures that are on their way, all taken, in this order. (DESIGN CHOICE, log
entries 15 and 34) -/
def deliverReports (s : State) : State := takeReports (clearLimit (takeApplied (handTarget (handCycle s))))

/-! ## One reference period -/

/-- The access in progress is one unit further (R117 to R121), with READY and the data lines free values; the flag says that
its recovery has ended. (DESIGN CHOICE, log entry 4) -/
def accessPeriod (s : State) : State × Bool :=
  match s.tbi.access with
  | none => (s, false)
  | some a =>
    match a.period (Config.readyLine s.sample) (Config.dataLines s.sample) with
    | some a' => (s.setTbi { s.tbi with access := some a' }, false)
    | none => (s, true)

/-- The access ends, if its recovery has ended; a READ's word was taken when its strobe ended. -/
def endAccessIf (ended : Bool) (s : State) : State := if ended then accessEnds 0 s else s

/-- R1: the tick divider, one reference period further. -/
def tickPeriod (s : State) : State :=
  if s.ctm.params.prescale ≤ s.ctm.tickPos + 1 then tickEnds s
  else s.setCtm { s.ctm with tickPos := s.ctm.tickPos + 1 }

/-- R17: the millisecond timer. (DESIGN CHOICE, log entry 37) -/
def msPeriod (s : State) : State :=
  if Config.periodsPerMs ≤ s.ctm.msPos + 1 then msEnds s else s.setCtm { s.ctm with msPos := s.ctm.msPos + 1 }

/-- R130: the 100 µs of the reset hold. (DESIGN CHOICE, log entry 37) -/
def holdPeriod (s : State) : State :=
  if s.tbi.hold then
    if Config.periodsOfHold ≤ s.tbi.holdPos + 1 then clearHold s
    else s.setTbi { s.tbi with holdPos := s.tbi.holdPos + 1 }
  else s

/-- The tick divider's period, then the end of the access, if it ends. The engine takes the end time or the end of open time that
the tick brings before TBI's report (R107, R108, R145). The rest that the tick brings, the start at the new counter value (R101,
R102) and, at a boundary, the reactions of WTU with its start at counter 0, of TBI and of OTA (R113), comes before the end of
the access or after it, all of it or none, as a free value has it; after it, it comes with the next period. The manual fixes no
order among these; that they are not divided within one idle period is the model's choice. (DESIGN CHOICE, log entry 17) -/
def tickThenAccess (n : Nat) (ended : Bool) (s : State) : State :=
  let s := tickPeriod s
  if ended then
    endAccessIf true (if Config.reactionsBeforeAccess n then settle s else takeOpenEnd (takeEndTime s))
  else s

/-- One reference period. Which comes first when a tick and an access end together is a free value (log entry 17); the end of
the reset hold is taken last (DESIGN CHOICE, log entry 37). (DESIGN CHOICE, log entry 15) -/
def period (s : State) : State :=
  let x := accessPeriod s
  let n := s.sample
  let s := x.1.nextSample
  holdPeriod (msPeriod
    (if Config.tickBeforeAccess n then tickThenAccess n x.2 s else tickPeriod (endAccessIf x.2 s)))

/-- What the block does when no command waits: the start that the counter has reached is announced (R39), every report on its way
is taken, then everything owed, and one reference period passes. While RST_N is low nothing happens. (DESIGN CHOICE, log entries
15, 16 and 34; DEDUCED, log entry 26) -/
def idle (s : State) : State := if s.resetLow then s else period (settle (deliverReports (announceStart s)))

end Sys2Proof.Machine
end

