-- ==== Sys2Proof/Machine/AgreementRows.lean ====
section
/-!
DEFINITION. One meaning per row: the commands of the Agreement Unit and the Cycle Timer.
-/
namespace Sys2Proof.Machine

/-- JOIN (R45, R153, R154). -/
def execJoin (p : HostId) (s : State) : Outcome :=
  .next (hostCommand p .join s)

/-- LEAVE (R46 to R48, R153, R154). -/
def execLeave (p : HostId) (s : State) : Outcome :=
  .next (hostCommand p .leave s)

/-- QUERY_MEMBERS (R64). -/
def execQueryMembers (p : HostId) (s : State) : Outcome :=
  .next (hostCommand p .queryMembers s)

/-- PROPOSE_CYCLE (R52, R54, R27). -/
def execProposeCycle (p : HostId) (s : State) : Outcome :=
  .next (hostCommand p .proposeCycle s)

/-- PROPOSE_TARGET (R53, R54). -/
def execProposeTarget (p : HostId) (s : State) : Outcome :=
  .next (hostCommand p .proposeTarget s)

/-- VOTE (R55, R60). -/
def execVote (p : HostId) (s : State) : Outcome :=
  .next (hostCommand p .vote s)

/-- WITHDRAW_PROPOSAL (R56, R60). -/
def execWithdrawProposal (p : HostId) (s : State) : Outcome :=
  .next (hostCommand p .withdrawProposal s)

/-- QUERY_PROPOSAL (R63). -/
def execQueryProposal (p : HostId) (s : State) : Outcome :=
  .next (hostCommand p .queryProposal s)

/-- QUERY_TIMEBASE (R18). -/
def execQueryTimebase (p : HostId) (s : State) : Outcome :=
  .next (hostCommand p .queryTimebase s)

end Sys2Proof.Machine
end

