-- ==== Sys2Proof/Machine/EngineRows.lean ====
section
/-!
DEFINITION. One meaning per row: what starts, ends and advances the engine's work.
-/
namespace Sys2Proof.Machine

/-- WINDOW_START_ANNOUNCE (R39, R98 to R104): WTU announces the start that the counter has reached. -/
def execWindowStartAnnounce (s : State) : Outcome :=
  .next (announceStart s)

/-- WINDOW_END_TIME (R99, R109, R111): the end time of the window in the engine is reached. -/
def execWindowEndTime (s : State) : Outcome :=
  .next (takeEndTime s)

/-- OPEN_TIME_END (R141): open time ends for the request or probe in progress. -/
def execOpenTimeEnd (s : State) : Outcome :=
  .next (takeOpenEnd s)

/-- READY_TIMEOUT (R121): the ready timeout elapses without READY seen. -/
def execReadyTimeout (s : State) : Outcome :=
  .next (Machine.readyTimeout s)

/-- ACCESS_COMPLETE (R117, R122, R127, R105 to R112, R144, R145): an access ends after recovery; `word` is what the target drove for a
READ whose strobe had not ended before. -/
def execAccessComplete (word : Word) (s : State) : Outcome :=
  .next (accessEnds word s)

end Sys2Proof.Machine
end

