-- ==== Sys2Proof/Machine/PortRows.lean ====
section
/-!
DEFINITION. One meaning per row: a host's other accesses to its port.
-/
namespace Sys2Proof.Machine

/-- BAD_COMMAND (R153): a COMMAND write whose code names no command. -/
def execBadCommand (p : HostId) (value : Word) (s : State) : Outcome :=
  .next (commandWrite p value s)

/-- ISSUE_WHILE_BUSY (R153, R163): a COMMAND write while the port is BUSY or its discard mark is SET. -/
def execIssueWhileBusy (p : HostId) (value : Word) (s : State) : Outcome :=
  .next (commandWrite p value s)

/-- EVENT_POP (R157): a write of any value to EVENT_POP. -/
def execEventPop (p : HostId) (_value : Word) (s : State) : Outcome :=
  .next (portWrite p Port.pop s)

/-- PORT_FLAGS_WRITE (R152, R163): a write to PORT_FLAGS. -/
def execPortFlagsWrite (p : HostId) (value : Word) (s : State) : Outcome :=
  .next (portWrite p (Port.clearFlags value) s)

/-- PORT_CONTROL_WRITE (R152, R159): a write to PORT_CONTROL. -/
def execPortControlWrite (p : HostId) (value : Word) (s : State) : Outcome :=
  .next (portWrite p (Port.setControl value) s)

/-- REGISTER_WRITE (R151, R152, R163): a write to a register or address with no row of its own. -/
def execRegisterWrite (p : HostId) (addr : BitVec 15) (value : Word) (s : State) : Outcome :=
  .next (hostWrite p addr value s)

/-- APERTURE_READ (R161, R84): a read of word `word` of an aperture. -/
def execApertureRead (p : HostId) (ap : Aperture) (word : Fin 2048) (s : State) : Outcome :=
  .next (readThrough p ap word.val s)

/-- APERTURE_WRITE (R161, R84): a write to word `word` of an aperture. -/
def execApertureWrite (p : HostId) (ap : Aperture) (word : Fin 2048) (value : Word) (s : State) : Outcome :=
  .next (writeAperture p ap word.val value s)

/-- MAILBOX_WRITE (R162, R78): a write to a word of the mailbox. -/
def execMailboxWrite (p : HostId) (word : Fin 256) (value : Word) (s : State) : Outcome :=
  .next (writeMailbox p word value s)

end Sys2Proof.Machine
end

