-- ==== Sys2Proof/Machine/RegionRows.lean ====
section
/-!
DEFINITION. One meaning per row: the commands of the Region Manager.
-/
namespace Sys2Proof.Machine

/-- DEFINE_REGION (R71, R67). -/
def execDefineRegion (p : HostId) (s : State) : Outcome :=
  .next (hostCommand p .defineRegion s)

/-- DELETE_REGION (R72 to R75). -/
def execDeleteRegion (p : HostId) (s : State) : Outcome :=
  .next (hostCommand p .deleteRegion s)

/-- QUERY_REGION (R79). -/
def execQueryRegion (p : HostId) (s : State) : Outcome :=
  .next (hostCommand p .queryRegion s)

/-- OPEN_READ (R85). -/
def execOpenRead (p : HostId) (s : State) : Outcome :=
  .next (hostCommand p .openRead s)

/-- CLOSE_READ (R86). -/
def execCloseRead (p : HostId) (s : State) : Outcome :=
  .next (hostCommand p .closeRead s)

/-- OPEN_WRITE (R87). -/
def execOpenWrite (p : HostId) (s : State) : Outcome :=
  .next (hostCommand p .openWrite s)

/-- PUBLISH (R88). -/
def execPublish (p : HostId) (s : State) : Outcome :=
  .next (hostCommand p .publish s)

/-- ABANDON_WRITE (R89). -/
def execAbandonWrite (p : HostId) (s : State) : Outcome :=
  .next (hostCommand p .abandonWrite s)

end Sys2Proof.Machine
end

