-- ==== Sys2Proof/Machine/ReportRows.lean ====
section
/-!
DEFINITION. One meaning per row: the reports between the units: hand-overs, application, the limit, and departures.
-/
namespace Sys2Proof.Machine

/-- CYCLE_CONTENTS_HANDOVER (R15, R16, R61): agreed cycle parameters reach CTM. -/
def execCycleContentsHandover (s : State) : Outcome :=
  .next (handCycle s)

/-- TARGET_CONTENTS_HANDOVER (R61, R124, R125): agreed target settings reach TBI. -/
def execTargetContentsHandover (s : State) : Outcome :=
  .next (handTarget s)

/-- PROPOSAL_APPLIED (R62): the owning unit has taken the agreed contents. -/
def execProposalApplied (s : State) : Outcome :=
  .next (takeApplied s)

/-- WTU_LIMIT_CLEAR (R27, R60): the CYCLE proposal has ended or was applied. -/
def execWtuLimitClear (s : State) : Outcome :=
  .next (clearLimit s)

/-- CTM_DEPARTURE (R14, R48): CTM takes the report of a departure. -/
def execCtmDeparture (h : HostId) (s : State) : Outcome :=
  .next (takeReport h .ctm (ctmLeave h) s)

/-- WTU_DEPARTURE (R37, R48): WTU takes the report of a departure. -/
def execWtuDeparture (h : HostId) (s : State) : Outcome :=
  .next (takeReport h .wtu (wtuLeave h) s)

/-- RGM_DEPARTURE (R77, R96, R48): RGM takes the report of a departure. -/
def execRgmDeparture (h : HostId) (s : State) : Outcome :=
  .next (takeReport h .rgm (rgmLeave h) s)

/-- OTA_DEPARTURE (R148, R48): OTA takes the report of a departure. -/
def execOtaDeparture (h : HostId) (s : State) : Outcome :=
  .next (takeReport h .ota (otaLeave h) s)

/-- PORT_DEPARTURE (R158, R48): the port takes the report of its host's departure. -/
def execPortDeparture (h : HostId) (s : State) : Outcome :=
  .next (takeReport h .port (portLeave h) s)

end Sys2Proof.Machine
end

