-- ==== Sys2Proof/Machine/RequestRows.lean ====
section
/-!
DEFINITION. One meaning per row: the commands of the Open-Time Arbiter and the Target Bus Interface.
-/
namespace Sys2Proof.Machine

/-- SUBMIT (R137, R138, R134). -/
def execSubmit (p : HostId) (s : State) : Outcome :=
  .next (hostCommand p .submit s)

/-- CANCEL (R139). -/
def execCancel (p : HostId) (s : State) : Outcome :=
  .next (hostCommand p .cancel s)

/-- QUERY_QUEUE (R149). -/
def execQueryQueue (p : HostId) (s : State) : Outcome :=
  .next (hostCommand p .queryQueue s)

/-- TARGET_RESTORE (R126). -/
def execTargetRestore (p : HostId) (s : State) : Outcome :=
  .next (hostCommand p .targetRestore s)

/-- QUERY_TARGET (R132). -/
def execQueryTarget (p : HostId) (s : State) : Outcome :=
  .next (hostCommand p .queryTarget s)

end Sys2Proof.Machine
end

