-- ==== Sys2Proof/Machine/ResetRows.lean ====
section
/-!
DEFINITION. One meaning per row: the resets of the part and of a port, and their ends.
-/
namespace Sys2Proof.Machine

/-- DEVICE_RESET (R19, R43, R65, R80, R97, R115, R131, R150, R165): RST_N goes low, or power comes on. -/
def execDeviceReset (s : State) : Outcome :=
  .next (deviceReset s)

/-- DEVICE_RESET_END (R1, R17, R130, R151): RST_N goes high. -/
def execDeviceResetEnd (s : State) : Outcome :=
  .next (deviceResetEnd s)

/-- RESET_HOLD_END (R130): 100 µs after the end of device reset TRST is deasserted. -/
def execResetHoldEnd (s : State) : Outcome :=
  .next (holdEnds s)

/-- PORT_RESET (R164): PRST_N of port `p` goes low. -/
def execPortReset (p : HostId) (s : State) : Outcome :=
  .next (portReset p s)

/-- PORT_RESET_END (R164): PRST_N of port `p` goes high. -/
def execPortResetEnd (p : HostId) (s : State) : Outcome :=
  .next (portResetEnd p s)

end Sys2Proof.Machine
end

