-- ==== Sys2Proof/Machine/TimeRows.lean ====
section
/-!
DEFINITION. One meaning per row: what the timebase, the SYNC_IN line and the millisecond timer make happen, and the units' reactions.
-/
namespace Sys2Proof.Machine

/-- TICK (R1, R6, R7, R14): a tick ends, after everything that the counter value before it called for. -/
def execTick (s : State) : Outcome :=
  .next (Machine.tick s)

/-- CYCLE_END_BOUNDARY (R7, R13): a tick ends with the counter at L - 1 while CYCLING; it has no effect elsewhere. -/
def execCycleEndBoundary (s : State) : Outcome :=
  .next (cycleEnds s)

/-- SYNC_IN_PULSE (R5, R8 to R11): a leading edge on SYNC_IN. -/
def execSyncInPulse (s : State) : Outcome :=
  .next (syncPulse s)

/-- MS_MARK (R17, R57): a mark of the millisecond timer. -/
def execMsMark (s : State) : Outcome :=
  .next (msEnds s)

/-- PROPOSAL_EXPIRE (R57, R60): the expiring mark, which ends the PENDING proposal whose vote timer it brings to 0. -/
def execProposalExpire (s : State) : Outcome :=
  .next (expireProposal s)

/-- WTU_BOUNDARY_REACTION (R34 to R36): WTU takes the boundary announced to it. -/
def execWtuBoundaryReaction (s : State) : Outcome :=
  .next (wtuBoundary s)

/-- TBI_BOUNDARY_REACTION (R124, R125): TBI takes the boundary announced to it. -/
def execTbiBoundaryReaction (s : State) : Outcome :=
  .next (tbiBoundary s)

/-- OTA_BOUNDARY_REACTION (R146, R142): OTA takes the boundary announced to it. -/
def execOtaBoundaryReaction (s : State) : Outcome :=
  .next (otaBoundary s)

/-- REQUEST_EXPIRED (R146, R147): the first queued request that expires at the boundary OTA is reacting to. -/
def execRequestExpired (s : State) : Outcome :=
  .next (expireOne s)

end Sys2Proof.Machine
end

