-- ==== Sys2Proof/Machine/WindowRows.lean ====
section
/-!
DEFINITION. One meaning per row: the commands of the Window Table Unit.
-/
namespace Sys2Proof.Machine

/-- STAGE_ADD (R28, R32). -/
def execStageAdd (p : HostId) (s : State) : Outcome :=
  .next (hostCommand p .stageAdd s)

/-- STAGE_CHANGE (R29, R32). -/
def execStageChange (p : HostId) (s : State) : Outcome :=
  .next (hostCommand p .stageChange s)

/-- STAGE_REMOVE (R30, R32). -/
def execStageRemove (p : HostId) (s : State) : Outcome :=
  .next (hostCommand p .stageRemove s)

/-- WITHDRAW_EDIT (R31, R32). -/
def execWithdrawEdit (p : HostId) (s : State) : Outcome :=
  .next (hostCommand p .withdrawEdit s)

/-- QUERY_WINDOW (R42). -/
def execQueryWindow (p : HostId) (s : State) : Outcome :=
  .next (hostCommand p .queryWindow s)

end Sys2Proof.Machine
end

