-- ==== Sys2Proof/Machine/Dispatch.lean ====
section
/-!
DEFINITION. exec: one arm per command, each one call of its meaning.
-/
namespace Sys2Proof.Machine

def exec (i : Instr) (s : State) : Host.Outcome State Fault Refusal :=
  match i with
  | .deviceReset => Sys2Proof.Machine.execDeviceReset s
  | .resetHoldEnd => Sys2Proof.Machine.execResetHoldEnd s
  | .portReset p => Sys2Proof.Machine.execPortReset p s
  | .portResetEnd p => Sys2Proof.Machine.execPortResetEnd p s
  | .tick => Sys2Proof.Machine.execTick s
  | .cycleEndBoundary => Sys2Proof.Machine.execCycleEndBoundary s
  | .syncInPulse => Sys2Proof.Machine.execSyncInPulse s
  | .msMark => Sys2Proof.Machine.execMsMark s
  | .proposalExpire => Sys2Proof.Machine.execProposalExpire s
  | .wtuBoundaryReaction => Sys2Proof.Machine.execWtuBoundaryReaction s
  | .tbiBoundaryReaction => Sys2Proof.Machine.execTbiBoundaryReaction s
  | .otaBoundaryReaction => Sys2Proof.Machine.execOtaBoundaryReaction s
  | .requestExpired => Sys2Proof.Machine.execRequestExpired s
  | .windowStartAnnounce => Sys2Proof.Machine.execWindowStartAnnounce s
  | .windowEndTime => Sys2Proof.Machine.execWindowEndTime s
  | .openTimeEnd => Sys2Proof.Machine.execOpenTimeEnd s
  | .readyTimeout => Sys2Proof.Machine.execReadyTimeout s
  | .accessComplete word => Sys2Proof.Machine.execAccessComplete word s
  | .cycleContentsHandover => Sys2Proof.Machine.execCycleContentsHandover s
  | .targetContentsHandover => Sys2Proof.Machine.execTargetContentsHandover s
  | .proposalApplied => Sys2Proof.Machine.execProposalApplied s
  | .wtuLimitClear => Sys2Proof.Machine.execWtuLimitClear s
  | .ctmDeparture h => Sys2Proof.Machine.execCtmDeparture h s
  | .wtuDeparture h => Sys2Proof.Machine.execWtuDeparture h s
  | .rgmDeparture h => Sys2Proof.Machine.execRgmDeparture h s
  | .otaDeparture h => Sys2Proof.Machine.execOtaDeparture h s
  | .portDeparture h => Sys2Proof.Machine.execPortDeparture h s
  | .join p => Sys2Proof.Machine.execJoin p s
  | .leave p => Sys2Proof.Machine.execLeave p s
  | .queryMembers p => Sys2Proof.Machine.execQueryMembers p s
  | .proposeCycle p => Sys2Proof.Machine.execProposeCycle p s
  | .proposeTarget p => Sys2Proof.Machine.execProposeTarget p s
  | .vote p => Sys2Proof.Machine.execVote p s
  | .withdrawProposal p => Sys2Proof.Machine.execWithdrawProposal p s
  | .queryProposal p => Sys2Proof.Machine.execQueryProposal p s
  | .queryTimebase p => Sys2Proof.Machine.execQueryTimebase p s
  | .stageAdd p => Sys2Proof.Machine.execStageAdd p s
  | .stageChange p => Sys2Proof.Machine.execStageChange p s
  | .stageRemove p => Sys2Proof.Machine.execStageRemove p s
  | .withdrawEdit p => Sys2Proof.Machine.execWithdrawEdit p s
  | .queryWindow p => Sys2Proof.Machine.execQueryWindow p s
  | .defineRegion p => Sys2Proof.Machine.execDefineRegion p s
  | .deleteRegion p => Sys2Proof.Machine.execDeleteRegion p s
  | .queryRegion p => Sys2Proof.Machine.execQueryRegion p s
  | .openRead p => Sys2Proof.Machine.execOpenRead p s
  | .closeRead p => Sys2Proof.Machine.execCloseRead p s
  | .openWrite p => Sys2Proof.Machine.execOpenWrite p s
  | .publish p => Sys2Proof.Machine.execPublish p s
  | .abandonWrite p => Sys2Proof.Machine.execAbandonWrite p s
  | .submit p => Sys2Proof.Machine.execSubmit p s
  | .cancel p => Sys2Proof.Machine.execCancel p s
  | .queryQueue p => Sys2Proof.Machine.execQueryQueue p s
  | .targetRestore p => Sys2Proof.Machine.execTargetRestore p s
  | .queryTarget p => Sys2Proof.Machine.execQueryTarget p s
  | .badCommand p value => Sys2Proof.Machine.execBadCommand p value s
  | .issueWhileBusy p value => Sys2Proof.Machine.execIssueWhileBusy p value s
  | .eventPop p value => Sys2Proof.Machine.execEventPop p value s
  | .portFlagsWrite p value => Sys2Proof.Machine.execPortFlagsWrite p value s
  | .portControlWrite p value => Sys2Proof.Machine.execPortControlWrite p value s
  | .registerWrite p addr value => Sys2Proof.Machine.execRegisterWrite p addr value s
  | .apertureRead p ap word => Sys2Proof.Machine.execApertureRead p ap word s
  | .apertureWrite p ap word value => Sys2Proof.Machine.execApertureWrite p ap word value s
  | .mailboxWrite p word value => Sys2Proof.Machine.execMailboxWrite p word value s
  | .deviceResetEnd => Sys2Proof.Machine.execDeviceResetEnd s

end Sys2Proof.Machine
end

