-- ==== Sys2Proof/Machine/Step.lean ====
section
/-!
DEFINITION. The step: the command at the front of the queue is taken and run; on an empty queue one reference period passes.
-/
namespace Sys2Proof.Machine

/-- One step of the block. On an empty queue the block does what its clock makes it do.
(DESIGN CHOICE, log entries 1, 15 and 27) -/
def step (s : State) : Host.Outcome State Fault Refusal :=
  match s.pending with
  | [] => .next (idle s)
  | c :: rest => exec c { s with pending := rest }

/-- The state with the command that a word spells put at the front of the queue; no word spells one (the table gives its
rows no bits). (DESIGN CHOICE, log entry 1) -/
def State.withFetchWord (s : State) (nbits w : Nat) : State :=
  match decodeTableWord nbits w with
  | some c => { s with pending := c :: s.pending }
  | none => s

end Sys2Proof.Machine
end

