-- ==== Sys2Proof/Safety.lean ====
section
/-!
DEFINITION. What claims about the block speak of: when a port takes a command, what its answer leaves in the port, what an
event leaves in a port, and the laws of the manual that every step keeps.
-/
namespace Sys2Proof.Machine

/-! ## Commands and events, as claims speak of them -/

/-- The row that is the COMMAND write of a code at a port. -/
def Cmd.instr (k : Cmd) (p : HostId) : Instr :=
  match k with
  | .join => .join p
  | .leave => .leave p
  | .queryMembers => .queryMembers p
  | .proposeCycle => .proposeCycle p
  | .proposeTarget => .proposeTarget p
  | .vote => .vote p
  | .withdrawProposal => .withdrawProposal p
  | .queryProposal => .queryProposal p
  | .queryTimebase => .queryTimebase p
  | .stageAdd => .stageAdd p
  | .stageChange => .stageChange p
  | .stageRemove => .stageRemove p
  | .withdrawEdit => .withdrawEdit p
  | .queryWindow => .queryWindow p
  | .defineRegion => .defineRegion p
  | .deleteRegion => .deleteRegion p
  | .queryRegion => .queryRegion p
  | .openRead => .openRead p
  | .closeRead => .closeRead p
  | .openWrite => .openWrite p
  | .publish => .publish p
  | .abandonWrite => .abandonWrite p
  | .submit => .submit p
  | .cancel => .cancel p
  | .queryQueue => .queryQueue p
  | .targetRestore => .targetRestore p
  | .queryTarget => .queryTarget p

/-- R151, R153: PRST_N and RST_N are high, the port is IDLE or DONE, and its discard mark is CLEAR. -/
def State.ready (s : State) (p : HostId) : Prop :=
  s.resetLow = false ∧ (s.port p).resetLow = false ∧ (s.port p).state ≠ .busy ∧ (s.port p).discard = false

/-- Parameter word `i` of port `p`. -/
def State.param (s : State) (p : HostId) (i : Fin 8) : Word := pick (s.port p).params i

/-- R153: what an answered command leaves in its port: DONE, the code, the status, and the result words, padded with 0. -/
def Port.doneWith (q : Port) (k : Cmd) (st : Status) (ws : List Word) : Port :=
  { q with
    state := .done, lastCommand := k.code, lastStatus := st.code, results := resultWords ws, captured := none }

/-- R156: port `q` after one event to every member. -/
def State.told (s : State) (e : Event) (q : HostId) : Port :=
  if s.isMember q then (s.port q).take e else s.port q

/-- Every port but `p` is as before. -/
def otherPorts (p : HostId) (s t : State) : Prop := ∀ q, q ≠ p → t.port q = s.port q

/-- Only port `p` differs, and it holds an answer: the whole effect of a query, of a refusal. -/
def onlyAnswers (p : HostId) (k : Cmd) (st : Status) (ws : List Word) (s t : State) : Prop :=
  t = { s with ports := t.ports } ∧ otherPorts p s t ∧ t.port p = (s.port p).doneWith k st ws

/-! ## Laws -/

/-- The canonical form of buffer memory and of every mailbox. -/
def State.memoryOk (s : State) : Prop :=
  WordMem.wf bufferWords s.rgm.mem = true ∧ ∀ h, WordMem.wf mailboxWords (pick s.ota.mailboxes h) = true

/-- R156, R157: at most 32 records, and the marker is SET only while the queue is full. -/
def Port.queueOk (q : Port) : Prop := q.events.length ≤ 32 ∧ (q.overflow = true → q.events.length = 32)

/-- Every port keeps the laws of its event queue. -/
def State.queuesOk (s : State) : Prop := ∀ p, (s.port p).queueOk

/-- The table of sync sub-states (section 1.4). -/
def Ctm.syncOk (c : Ctm) : Prop :=
  match c.sync with
  | .unsynced => (c.params.mode = .free ∨ c.timebase ≠ .cycling) ∧ c.missed = 0
  | .locked => c.params.mode = .follow ∧ c.timebase = .cycling ∧ c.missed = 0
  | .holdover => c.params.mode = .follow ∧ c.timebase = .cycling ∧ 1 ≤ c.missed ∧ c.missed ≤ 3
  | .lost => c.params.mode = .follow ∧ c.timebase = .cycling ∧ 4 ≤ c.missed ∧ c.missed ≤ 255

/-- The timebase state agrees with run and mode in force (section 1.3). -/
def Ctm.runOk (c : Ctm) : Prop :=
  match c.timebase with
  | .stopped => c.params.run = .stop
  | .acquiring => c.params.run = .run ∧ c.params.mode = .follow
  | .cycling => c.params.run = .run

/-- The parameters a CYCLE proposal carries, if it is one. -/
def Contents.cycleParams : Contents → Option CycleParams
  | .cycle p => some p
  | .target _ => none

/-- R2, R3, R6 and section 1.4: parameters, slot and proposed parameters in range, the counter below L, 0 and the slot EMPTY
while not CYCLING, and the sub-state and missed count as their table says. -/
def State.timebaseOk (s : State) : Prop :=
  s.ctm.params.inRange = true ∧ (∀ p ∈ s.ctm.slot, p.inRange = true) ∧
    (∀ r ∈ s.agu.proposal, ∀ p ∈ r.contents.cycleParams, p.inRange = true) ∧
    s.ctm.counter < s.ctm.params.length ∧
    (s.ctm.timebase ≠ .cycling → s.ctm.counter = 0 ∧ s.ctm.slot = none) ∧ s.ctm.runOk ∧ s.ctm.syncOk

/-- R44, R50: no member departs; the required set lies in the members, the accepted set in the required set; ids and the vote
timer stay in their ranges. -/
def State.agreementOk (s : State) : Prop :=
  (∀ h, s.isMember h = true → s.departure h = none) ∧
    (∀ r ∈ s.agu.proposal, ∀ h, HostSet.has r.required h = true → s.isMember h = true) ∧
    (∀ r ∈ s.agu.proposal, ∀ h, HostSet.has r.accepted h = true → HostSet.has r.required h = true) ∧
    1 ≤ s.agu.nextId ∧ s.agu.nextId ≤ 65535 ∧ s.agu.voteTimer ≤ 255

/-- The number of PUBLISHED banks. -/
def publishedCount (banks : List Bank) : Nat := (banks.filter fun b => b.role == .published).length

/-- R66, R68, R69: 2 or 3 banks, a size of 1 to 64 blocks, a run inside the pool, at most one PUBLISHED bank. -/
def Region.ok (r : Region) : Prop :=
  (r.banks.length = 2 ∨ r.banks.length = 3) ∧ 1 ≤ r.size ∧ r.size ≤ 64 ∧ r.base + r.blocks ≤ Config.blocks ∧
    publishedCount r.banks ≤ 1

/-- Every region is ok and no two runs share a block. -/
def State.regionsOk (s : State) : Prop :=
  (∀ i, ∀ r ∈ s.region i, r.ok) ∧
    ∀ i j, i ≠ j → ∀ r ∈ s.region i, ∀ q ∈ s.region j,
      r.base + r.blocks ≤ q.base ∨ q.base + q.blocks ≤ r.base

/-- R25, R135, R127: at most 32 staged edits, at most 8 requests in a queue, no target with two probes. -/
def State.limitsOk (s : State) : Prop :=
  s.wtu.edits.length ≤ Config.maxEdits ∧ (∀ h, (s.queue h).length ≤ Config.maxRequests) ∧
    (s.ota.probing.toList ++ s.ota.probes).Nodup

/-- R23: one record for an id, ordered by S, the spans pairwise disjoint and none empty. -/
def tableOk (t : List Window) : Prop :=
  (t.map Window.id).Nodup ∧ t.Pairwise (fun v w => v.start + v.dur ≤ w.start) ∧ ∀ w ∈ t, 0 < w.dur

/-- R25: a staged ADD carries a new window of its issuer; a staged CHANGE or REMOVE names an ACTIVE window of its issuer. -/
def Edit.fits (u : Wtu) (e : Edit) : Prop :=
  match e.op with
  | .add w => w.id = e.id ∧ w.owner = e.issuer ∧ w.cond = .active ∧ 0 < w.dur ∧ ∀ v ∈ u.table, v.id ≠ e.id
  | .change w => 0 < w.dur ∧ ∃ v ∈ u.table, v.id = e.id ∧ v.owner = e.issuer ∧ v.cond = .active
  | .remove => ∃ v ∈ u.table, v.id = e.id ∧ v.owner = e.issuer ∧ v.cond = .active

/-- R23, R24, R26: the active table and the prospective table without the ORPHANED windows obey the laws of a table, every id
carries at most one staged edit, which fits the table, and at most 192 store entries are in use. -/
def State.windowsOk (s : State) : Prop :=
  tableOk s.wtu.table ∧ tableOk (s.wtu.prospective.filter fun w => w.cond == .active) ∧
    (s.wtu.edits.map Edit.id).Nodup ∧ (∀ e ∈ s.wtu.edits, e.fits s.wtu) ∧ s.wtu.segmentsUsed ≤ 192

/-- R81, R82: the role and pins of bank `b` of region `i` agree with the handles and the engine claim. A FREE or FILLING bank
carries no pin, a HELD bank carries one. -/
def bankOk (s : State) (i : RegionId) (b : Nat) (k : Bank) : Prop :=
  (∀ h, HostSet.has k.pins h = true ↔ ∃ a, ∃ x ∈ s.readHandle h a, x.region = i ∧ x.bank = b) ∧
    (k.role = .filling .writeHandle ↔ ∃ h, ∃ x ∈ s.writeHandle h, x.region = i ∧ x.bank = b) ∧
    (k.role = .filling .engine ↔ s.rgm.claim = some ⟨.fill, i, b⟩) ∧
    (k.enginePin = true ↔ s.rgm.claim = some ⟨.drain, i, b⟩) ∧
    (k.role = .free ∨ k.filling = true → k.pins = 0 ∧ k.enginePin = false) ∧
    (k.role = .held → k.pins ≠ 0 ∨ k.enginePin = true)

/-- R83, R85, R87, R90: a handle or claim is on a bank of a region that exists and has the kind it needs; a host has at most one read
handle on a region; a write handle is the owner's. -/
def State.handlesOk (s : State) : Prop :=
  (∀ h a, ∀ x ∈ s.readHandle h a, (∃ r ∈ s.region x.region, r.kind = .input ∧ x.bank < r.banks.length) ∧
      ∀ c, ∀ y ∈ s.readHandle h c, y.region = x.region → c = a) ∧
    (∀ h, ∀ x ∈ s.writeHandle h, ∃ r ∈ s.region x.region, r.kind = .output ∧ r.owner = h ∧ x.bank < r.banks.length) ∧
    ∀ k ∈ s.rgm.claim, ∃ r ∈ s.region k.region, (k.kind = .fill ↔ r.kind = .input) ∧ k.bank < r.banks.length

/-- What a port knows of a handle: the region, the bank and its number of words (R83). -/
def State.bindingOf (s : State) (x : Handle) : Binding :=
  { region := x.region, bank := x.bank, words := ((s.region x.region).map Region.words).getD 0 }

/-- R83: every aperture of a port shows the handle that RGM holds for it. -/
def State.bindingsOk (s : State) : Prop :=
  ∀ h, (∀ a, pick (s.port h).readBind a = (s.readHandle h a).map s.bindingOf) ∧
    (s.port h).writeBind = (s.writeHandle h).map s.bindingOf

/-- R82: the engine holds a claim exactly while RGM does, for the window it runs. -/
def State.claimsAgree (s : State) : Prop :=
  (s.txe.claim = none → s.rgm.claim = none) ∧
    ∀ k ∈ s.txe.claim, s.txe.state = .window ∧ s.txe.spent = none ∧ ∃ c ∈ s.txe.ctx,
      s.rgm.claim = some ⟨if c.dir = .dirIn then .fill else .drain, c.region, k.bank⟩

/-- The region exists and has the kind that the direction needs (R28). -/
def State.regionFits (s : State) (d : Direction) (i : RegionId) : Prop := ∃ r ∈ s.region i, (d = .dirIn ↔ r.kind = .input)

/-- R90: every window, staged record and pending start that may still claim names a region of the kind it needs. -/
def State.namesOk (s : State) : Prop :=
  (∀ w ∈ s.wtu.table, s.regionFits w.dir w.region) ∧
    (∀ e ∈ s.wtu.edits, ∀ w ∈ e.record, s.regionFits w.dir w.region) ∧
    ∀ p ∈ s.txe.pendingStart, p.crossed = false → s.ctm.timebase = .cycling ∧ s.wtu.boundaryDue = false ∧
      ∃ w ∈ s.wtu.table, w.region = p.region ∧ w.dir = p.dir

/-- R81 to R83, R90: the banks' roles and pins agree with the handles, the claim and the bindings, and at most one bank of a region is
FILLING. -/
def State.banksOk (s : State) : Prop :=
  (∀ i, ∀ r ∈ s.region i, (∀ b < r.banks.length, ∀ k ∈ r.banks[b]?, bankOk s i b k) ∧ (r.banks.filter Bank.filling).length ≤ 1) ∧
    s.handlesOk ∧ s.bindingsOk ∧ s.claimsAgree ∧ s.namesOk

/-- A safe run of the block: every law holds. -/
def State.safe (s : State) : Prop :=
  s.memoryOk ∧ s.queuesOk ∧ s.timebaseOk ∧ s.agreementOk ∧ s.regionsOk ∧ s.limitsOk ∧ s.windowsOk ∧ s.banksOk

/-! ## Parts of statements -/

/-- A port as its port reset leaves it, but for the discard mark and the captured command. The aperture bindings are not
touched; PRST_N is low. -/
def clearedPort (q : Port) (discard : Bool) (captured : Option Captured) : Port :=
  { state := .idle, lastCommand := 0, lastStatus := 0, params := .replicate 8 0, segArea := .replicate 24 0, captured
    results := .replicate 8 0, events := [], overflow := false, popped := .replicate 6 0, irqEnable := false
    accessError := false, issueBusy := false, readBind := q.readBind, writeBind := q.writeBind, discard
    cmark := false, resetLow := true, dataOut := q.dataOut }

/-- Nothing is owed at the present instant: no boundary reaction outstanding, no work in the engine, no start due. -/
def quiet (s : State) : Prop :=
  s.wtu.boundaryDue = false ∧ s.tbi.boundaryDue = false ∧ s.ota.boundaryDue = false ∧ s.txe.state = .idle ∧
    (s.ctm.timebase = .cycling → s.wtu.announceDue = true →
      ∀ w ∈ s.wtu.table, w.start = s.ctm.counter → w.cond = .active → w.selected s.ctm.cycle = false)

/-- What a boundary leaves in the units that have not reacted yet. -/
def announced (s : State) (c : Ctm) (t : State) : Prop :=
  t = { s with
    ctm := c, ports := t.ports, agu := t.agu
    wtu := { s.wtu with boundaryDue := true, announceDue := false, boundaryCycle := lowWord (s.ctm.cycle + 1) }
    tbi := { s.tbi with boundaryDue := true }, ota := { s.ota with boundaryDue := true }
    txe := { s.txe with
      ctx := s.txe.ctx.map fun c => { c with crossed := true }
      pendingStart := s.txe.pendingStart.map fun c => { c with crossed := true }
      spent := s.txe.spent.map fun e => { e with crossed := true }
      stopDue := s.txe.state == .openRun } }

/-- A port at a boundary: its cycle-mark line is asserted if its host is a member, and a member is told of a change of the sync
sub-state. -/
def markedPort (s : State) (sync : SyncState) (missed : Nat) (p : HostId) : Port :=
  let q : Port := { s.port p with cmark := s.isMember p }
  if sync ≠ s.ctm.sync ∧ s.isMember p = true then
    q.take (.syncState sync s.ctm.sync missed (lowWord (s.ctm.cycle + 1)))
  else q

/-- The Cycle Timer in the cycle that a boundary begins, under the parameters it had (R13). -/
def Ctm.ended (c : Ctm) (sync : SyncState) (missed : Nat) : Ctm :=
  { c with counter := 0, tickPos := 0, cycle := c.cycle + 1, early := false, sync, missed }

/-- The Cycle Timer after a boundary has taken `n` from the slot (R16): `d` is what the boundary itself left. -/
def Ctm.took (d : Ctm) (n : CycleParams) : Ctm :=
  let e := { d with params := n, slot := none }
  if n.run = .stop then { e with timebase := .stopped, sync := .unsynced, missed := 0 }
  else if n.mode = .free then { e with sync := .unsynced, missed := 0 }
  else if d.params.mode = .free then { e with timebase := .acquiring, sync := .unsynced, missed := 0 }
  else e

/-- What the end of a proposal other than AGREED leaves: no record, the last outcome, the report to WTU for a CYCLE proposal, and
one PROPOSAL_OUTCOME at every member. -/
def proposalEnds (r : Proposal) (v : Verdict) (detail : Nat) (s t : State) : Prop :=
  t.agu.proposal = none ∧ t.agu.lastOutcome = some (r.id, v) ∧
    t.wtu = (if r.contents.kind = .cycle then { s.wtu with limitClearDue := true } else s.wtu) ∧
    ∀ q, t.port q = s.told (.proposalOutcome r.id v r.contents.kind detail) q

/-- No region is RETIRING, so that no report of WTU frees one. -/
def noRetiring (s : State) : Prop := ∀ i, ∀ r ∈ s.region i, r.retire = none

/-- The window whose start the counter has reached is `w`: no window before it in the table starts there. -/
def dueIs (s : State) (pre post : List Window) (w : Window) : Prop :=
  s.ctm.timebase = .cycling ∧ s.wtu.announceDue = true ∧ s.wtu.boundaryDue = false ∧ s.wtu.table = pre ++ w :: post ∧
    (∀ v ∈ pre, v.start ≠ s.ctm.counter) ∧ w.start = s.ctm.counter ∧ w.cond = .active ∧
    s.ctm.cycle.toNat % w.divisor = w.phase

/-- The execution copy of a window announced in this cycle. -/
def copyOf (s : State) (w : Window) : RunCopy :=
  { id := w.id, owner := w.owner, notify := w.notify, target := w.target, dir := w.dir, region := w.region, segs := w.segs
    start := w.start, endTime := w.start + w.dur, cycle := lowWord s.ctm.cycle, crossed := false }

/-- The engine at word 0 of segment 0 of a window, with the bank it was granted. -/
def windowBegun (c : RunCopy) (b : Nat) (g : BitVec 32) : Txe :=
  { state := .window, ctx := some c, claim := some ⟨b, g⟩, seg := 0, word := 0, spent := none, pendingStart := none
    endTaken := false, waiting := false, stopDue := false, stopping := false }

/-- The engine in WINDOW with the spent mark SET, waiting for the end time `e` and holding nothing else; its position is 0, 0 (log
entry 38). -/
def spentUntil (e : Nat) : Txe := { resetTxe with state := .window, spent := some ⟨e, false⟩ }

/-- The access of the first word of a window in its setup phase. -/
def firstAccess (s : State) (c : RunCopy) (g : Segment) (write : Bool) (data : Word) : Access :=
  { target := c.target, reg := g.reg, write, kind := .window, data, profile := s.profile c.target, burst := false
    phase := .setup, elapsed := 0, timedOut := false }

/-- WTU with one run more outstanding and the start announced. -/
def runListed (s : State) (w : Window) : Wtu :=
  { s.wtu with announceDue := false, runs := s.wtu.runs ++ [⟨w.id, lowWord s.ctm.cycle, false⟩] }

/-- A departure that awaits further units after `u` has confirmed. -/
def stillAwaiting (d : Departure) (u : LeaveUnit) (s : State) (h : HostId) : Agu :=
  { s.agu with departing := put s.agu.departing h (some { d with awaiting := d.awaiting.filter fun x => x != u }) }

/-- The record a proposal begins as. -/
def newProposal (s : State) (p : HostId) (c : Contents) (expiry : Nat) : Proposal :=
  { id := s.agu.nextId, contents := c, proposer := p, required := HostSet.minus s.agu.members p, accepted := 0, expiry
    state := .waiting, handed := false }

/-- AGU after a proposal with voters is accepted: PENDING, the vote timer at the expiry, the next id. -/
def proposed (s : State) (p : HostId) (c : Contents) (expiry : Nat) : Agu :=
  { s.agu with
    proposal := some (newProposal s p c expiry), voteTimer := expiry
    nextId := if s.agu.nextId < 65535 then s.agu.nextId + 1 else 1 }

/-- Every required voter is told of a proposal, the proposer's port holds the answer, and no other port changes. -/
def votersTold (s t : State) (p : HostId) (k : Cmd) (c : Contents) (expiry : Nat) : Prop :=
  t.port p = (s.port p).doneWith k .ok [BitVec.ofNat 16 s.agu.nextId] ∧
    ∀ q, q ≠ p → t.port q = s.told (.proposal s.agu.nextId c p expiry) q

/-- The parameter words and the segment area of port `p` spell the window record `w`, every field in its range. -/
def spells (s : State) (p : HostId) (w : Window) : Prop :=
  (w.start < 65536 ∧ 4 ≤ w.dur ∧ w.dur < 65536 ∧ w.divisor ∈ [1, 2, 4, 8, 16] ∧ w.phase < w.divisor ∧
    1 ≤ w.segs.length ∧ w.segs.length ≤ 8 ∧
    ∀ g ∈ w.segs, g.reg ≤ 15 ∧ 1 ≤ g.count ∧ g.count ≤ 256 ∧ g.offset < 65536 ∧
      (g.mode = .step → g.reg + g.count - 1 ≤ 15)) ∧
    s.param p 0 = BitVec.ofNat 16 w.start ∧ s.param p 1 = BitVec.ofNat 16 w.dur ∧
    s.param p 2 = BitVec.ofNat 16 (w.target.val + 16 * w.dir.code + 32 * bit w.notify + 256 * w.segs.length) ∧
    s.param p 3 = BitVec.ofNat 16 w.region.val ∧ s.param p 4 = BitVec.ofNat 16 w.divisor ∧
    s.param p 5 = BitVec.ofNat 16 w.phase ∧
    ∀ m : Fin 8, ∀ g ∈ w.segs[m.val]?,
      pick (s.port p).segArea ⟨3 * m.val, by omega⟩ = BitVec.ofNat 16 (g.reg + 256 * g.mode.code) ∧
      pick (s.port p).segArea ⟨3 * m.val + 1, by omega⟩ = BitVec.ofNat 16 g.count ∧
      pick (s.port p).segArea ⟨3 * m.val + 2, by omega⟩ = BitVec.ofNat 16 g.offset

/-- The region of `w` is DEFINED, belongs to host `p`, has the kind the direction needs, and every segment fits a bank; the span
ends by E and by the proposed-E limit. -/
def placed (s : State) (p : HostId) (w : Window) : Prop :=
  (∃ r ∈ s.region w.region, r.retire = none ∧ r.owner = p ∧ (w.dir = .dirIn ↔ r.kind = .input) ∧
    ∀ g ∈ w.segs, g.offset + g.count ≤ 32 * r.size) ∧
    w.start + w.dur ≤ usableEnd s.ctm.params ∧ ∀ e ∈ s.wtu.limit, w.start + w.dur ≤ e

/-- Two spans share no tick. -/
def apart (v w : Window) : Prop := v.start + v.dur ≤ w.start ∨ w.start + w.dur ≤ v.start

/-- The record is one that STAGE_ADD makes: a new window of host `p`, ACTIVE, never run, under the lowest free id. -/
def newWindow (s : State) (p : HostId) (w : Window) : Prop :=
  w.owner = p ∧ w.cond = .active ∧ w.lastStatus = .never ∧ w.lastCycle = 0 ∧ w.id ≤ 63 ∧ s.wtu.idFree w.id = true ∧
    ∀ j, j < w.id → s.wtu.idFree j = false

/-- Blocks `b` to `b + n - 1` meet no region's run. -/
def runIsFree (s : State) (b n : Nat) : Prop :=
  ∀ j, ∀ q ∈ s.region j, b + n ≤ q.base ∨ q.base + q.blocks ≤ b

/-- Slot `i` is the lowest-numbered empty slot of the region table. -/
def lowestSlot (s : State) (i : RegionId) : Prop := s.region i = none ∧ ∀ j, j < i → s.region j ≠ none

/-- The parameter words of DEFINE_REGION spell kind, size, banks and reader set, in their ranges. -/
def asksRegion (s : State) (p : HostId) (kind : RegionKind) (size banks : Nat) (readers : HostSet) : Prop :=
  1 ≤ size ∧ size ≤ 64 ∧ (banks = 2 ∨ banks = 3) ∧ (kind = .output → readers = 0) ∧
    s.param p 0 = BitVec.ofNat 16 kind.code ∧ s.param p 1 = BitVec.ofNat 16 size ∧ s.param p 2 = BitVec.ofNat 16 banks ∧
    s.param p 3 = BitVec.ofNat 16 readers.toNat

/-- The words that a request's access units are counted by: one full access for each word, but strobe + 1 units for each word after
the first of a FIXED block request under burst ON. -/
def unitsOf (r : Request) (f : Profile) : Nat :=
  if (r.kind = .blockRead ∨ r.kind = .blockWrite) ∧ r.mode = .fixed ∧ f.burst = true then
    f.setup + f.strobe + f.recovery + (r.count - 1) * (f.strobe + 1)
  else r.count * (f.setup + f.strobe + f.recovery)

/-- The parameter words of SUBMIT spell request `r`, every field in its range, with its estimate in ticks rounded up. -/
def asksRequest (s : State) (p : HostId) (r : Request) : Prop :=
  (r.tag ≤ 255 ∧ r.reg ≤ 15 ∧ r.deadline ≤ 255 ∧
    ((r.kind = .regRead ∨ r.kind = .regWrite) ∧ r.count = 1 ∧ r.offset < 65536 ∨
      (r.kind = .blockRead ∨ r.kind = .blockWrite) ∧ 1 ≤ r.count ∧ r.offset + r.count ≤ 256 ∧
        (r.mode = .step → r.reg + r.count - 1 ≤ 15))) ∧
    s.param p 0 = BitVec.ofNat 16 r.tag ∧
    s.param p 1 = BitVec.ofNat 16 (r.kind.code + 16 * r.mode.code + 256 * r.target.val) ∧
    s.param p 2 = BitVec.ofNat 16 r.reg ∧ s.param p 3 = BitVec.ofNat 16 r.count ∧
    s.param p 4 = BitVec.ofNat 16 r.offset ∧ s.param p 5 = r.value ∧ s.param p 6 = BitVec.ofNat 16 r.deadline ∧
    r.estimate = (unitsOf r (s.profile r.target) + s.ctm.params.prescale - 1) / s.ctm.params.prescale

/-- R39: no window's start is due at the present counter value. -/
def noStartDue (s : State) : Prop :=
  s.ctm.timebase = .cycling → s.wtu.announceDue = true → s.wtu.boundaryDue = false →
    ∀ w ∈ s.wtu.table, w.start = s.ctm.counter → w.cond = .active → s.ctm.cycle.toNat % w.divisor ≠ w.phase

/-- R140, R142: an estimate in ticks fits the remaining open time, which is unlimited while the timebase is not CYCLING. -/
def fitsOpen (s : State) (ticks : Nat) : Prop :=
  s.ctm.timebase = .cycling → s.ctm.counter < nextRunningStart s ∧ s.ctm.counter + ticks ≤ nextRunningStart s

/-- R142: the estimate of a probe, from the profile and P in force. -/
def probeTicks (s : State) (x : TargetId) : Nat :=
  let f := s.profile x
  (f.setup + f.strobe + f.recovery + s.ctm.params.prescale - 1) / s.ctm.params.prescale

/-- R142, part 1: no probe is queued, or the head of the probe queue does not fit. -/
def probeWaits (s : State) : Prop := ∀ x ∈ s.ota.probes.head?, ¬ fitsOpen s (probeTicks s x)

/-- R142, part 2: host `k` is passed over: it has no request, or its head's target is ONLINE and the head does not fit. -/
def passedOver (s : State) (k : HostId) : Prop :=
  ∀ r ∈ (s.queue k).head?, s.target r.target = .online ∧ ¬ fitsOpen s r.estimate

/-- R142: the turn at which a choice comes to host `h`: 1 for the host after the pointer, 4 for the pointer's own. -/
def turn (pointer h : HostId) : Nat := if h = pointer then 4 else (h - pointer).val

/-- A request appended to the end of a host's queue. -/
def appended (s : State) (p : HostId) (r : Request) : State :=
  { s with ota := { s.ota with queues := put s.ota.queues p (s.queue p ++ [r]) } }

/-- The access of a request's first word, in its setup phase (R144). -/
def requestBegun (s : State) (h : HostId) (r : Request) : Access :=
  { target := r.target, reg := r.reg, write := r.kind == .regWrite || r.kind == .blockWrite, kind := .request
    data := match r.kind with
      | .regWrite => r.value
      | .blockWrite => (pick s.ota.mailboxes h).read r.offset
      | .regRead | .blockRead => 0
    profile := s.profile r.target, burst := false, phase := .setup, elapsed := 0, timedOut := false }

/-- A probe's access, in its setup phase (R127). -/
def probeBegun (s : State) (x : TargetId) : Access :=
  { target := x, reg := 0, write := false, kind := .probe, data := 0, profile := s.profile x, burst := false
    phase := .setup, elapsed := 0, timedOut := false }

/-- Open time has ended for what runs in OPEN (R141): at a boundary, which the mark stopDue holds (log entry 23), or with the
counter at E. -/
def openTimeEnded (s : State) : Prop :=
  s.txe.stopDue = true ∨ (s.ctm.timebase = .cycling ∧ usableEnd s.ctm.params ≤ s.ctm.counter)

/-- The host has no request of a tag, queued or in progress under its current membership. -/
def tagUnused (s : State) (p : HostId) (tag : Nat) : Prop :=
  (∀ x ∈ s.queue p, x.tag ≠ tag) ∧
    ∀ y ∈ s.ota.running, y.owner = p → y.former = false → y.req.tag ≠ tag

/-- A word address with no row of its own whose write is ignored and flagged: read-only registers, offsets the page does not name, and
addresses outside the map. -/
def flaggedAddress (a : BitVec 15) : Prop :=
  a.toNat < 0x03 ∨ (0x0C ≤ a.toNat ∧ a.toNat < 0x14) ∨ (0x15 ≤ a.toNat ∧ a.toNat < 0x1C) ∨
    (0x1E ≤ a.toNat ∧ a.toNat < 0x20) ∨ (0x38 ≤ a.toNat ∧ a.toNat < 0x100) ∨ (0x200 ≤ a.toNat ∧ a.toNat < 0x800) ∨
    0x3000 ≤ a.toNat

/-- The buffer-memory word that word `w` behind a binding is. -/
def wordBehind (r : Region) (b : Binding) (w : Nat) : Nat := 32 * (r.base + b.bank * r.size) + w

/-- Port `q` after events to every member, in their order. -/
def toldAll (s : State) (es : List Event) (q : HostId) : Port :=
  if s.isMember q then es.foldl (fun r e => r.take e) (s.port q) else s.port q

/-- A bank holds its region: a host pin, the engine pin, or FILLING (R74). -/
def bankHolds (k : Bank) : Bool := k.pins != 0 || k.enginePin || k.filling

/-- R74: region `i`, now with record `r`, is RETIRING and nothing holds or names it. -/
def freeable (s : State) (i : RegionId) (r : Region) : Bool :=
  r.retire.isSome && !r.banks.any bankHolds && !s.wtu.names i

/-- R74: what the slot holds when one of the holds on region `i`, now with record `r`, has gone. -/
def keptOrFreed (s : State) (i : RegionId) (r : Region) : Option Region := if freeable s i r then none else some r

/-- R75: REGION_FREED, if region `i` with record `r` is freed. -/
def freedEvent (s : State) (i : RegionId) (r : Region) : List Event :=
  if freeable s i r then [.regionFreed i (r.retire.getD .deleted) r.owner r.base r.blocks] else []

/-- R92: the banks `bs` after bank `b` was published under generation `g`: the bank PUBLISHED before is HELD if it carries a pin and
FREE if not, the others stay. -/
def publishedAt (bs after : List Bank) (b : Nat) (g : BitVec 32) : Prop :=
  after.length = bs.length ∧
    ∀ (j : Nat) (y : Bank), bs[j]? = some y → after[j]? = some
      (if j = b then { y with role := .published, content := g }
       else if y.role = .published then { y with role := if y.pins = 0 ∧ y.enginePin = false then .free else .held }
       else y)

/-- R70: the generation after one more publication. -/
def generationAfter (g : BitVec 32) : BitVec 32 := if g = 0xFFFFFFFF then 1 else g + 1

/-- R105: the walk's position after a word of segment `g`: the next word of it, or word 0 of the segment that follows. -/
def positionAfter (t : Txe) (g : Segment) : Nat × Nat :=
  if t.word + 1 < g.count then (t.seg, t.word + 1) else (t.seg + 1, 0)

/-- The access of word `i` of a window's segment `g` (R105, R119): a burst continuation if it is not the first word of a FIXED segment
and the profile has burst ON. -/
def wordAccess (s : State) (c : RunCopy) (g : Segment) (i : Nat) (write : Bool) (data : Word) : Access :=
  let burst := g.mode == .fixed && decide (0 < i) && (s.profile c.target).burst
  { target := c.target, reg := if g.mode = .fixed then g.reg else g.reg + i, write, kind := .window, data
    profile := s.profile c.target, burst, phase := if burst then .strobe else .setup, elapsed := 0, timedOut := false }

/-- R74, R77: region `i`, left as `r` by its owner's departure, is RETIRING, or freed if nothing holds or names it. -/
def retiredOrFreed (s : State) (i : RegionId) (r : Region) : Option Region :=
  if r.banks.any bankHolds || s.wtu.names i then
    some { r with retire := some .ownerLeft }
  else none

/-- R75: REGION_FREED of every region that a departure of `h` freed, in ascending order of id. -/
def freedEvents (h : HostId) (s t : State) : List Event :=
  allRegions.filterMap fun i =>
    match s.region i, t.region i with
    | some r, none =>
      some (.regionFreed i (if r.owner = h then .ownerLeft else r.retire.getD .deleted) r.owner r.base r.blocks)
    | _, _ => none

/-- The words of a target's settings in contents form (section 9.3). -/
def targetWords (x : TargetId) (enable : Bool) (f : Profile) : List Word :=
  [BitVec.ofNat 16 (x.val + 16 * bit enable + 32 * bit f.handshake + 64 * bit f.burst + 256 * (f.setup % 8)),
   BitVec.ofNat 16 (f.strobe % 256 + 256 * (f.recovery % 256)), BitVec.ofNat 16 f.timeout]

/-- The words of a proposal's contents (section 9.3). -/
def contentsWords : Contents → List Word
  | .cycle n =>
    [BitVec.ofNat 16 (n.run.code + 2 * n.mode.code + 256 * (n.window % 256)), BitVec.ofNat 16 n.length,
     BitVec.ofNat 16 n.prescale]
  | .target n => targetWords n.target n.enable n.profile

/-- The result words of QUERY_PROPOSAL for host `p` (section 9.3). -/
def proposalWords (s : State) (p : HostId) : List Word :=
  let last := s.agu.lastOutcome.map fun x => x.2.code
  let q0 : Nat := match s.agu.proposal with
    | none => 0
    | some r =>
      1 + 2 * r.state.code + 4 * bit r.handed + 8 * r.contents.kind.code + 16 * bit (HostSet.has r.required p) +
        32 * bit (HostSet.has r.accepted p) + 256 * r.proposer.val
  BitVec.ofNat 16 (q0 + 4096 * last.getD 0) ::
    (match s.agu.proposal with
    | none => [0, 0, 0, 0, 0]
    | some r =>
      [BitVec.ofNat 16 r.id,
       BitVec.ofNat 16 (r.required.toNat + 16 * r.accepted.toNat +
        256 * ((if r.state = .agreed then 0 else s.agu.voteTimer) % 256))] ++ contentsWords r.contents) ++
    [BitVec.ofNat 16 ((s.agu.lastOutcome.map Prod.fst).getD 0), BitVec.ofNat 16 s.agu.nextId]

/-- The result words of QUERY_QUEUE for host `p` (section 9.3). -/
def queueWords (s : State) (p : HostId) : List Word :=
  let mine := s.ota.running.filter fun r => r.owner == p && !r.former
  [BitVec.ofNat 16 ((s.queue p).length % 16 + 16 * bit (s.queue p != []) + 32 * bit mine.isSome +
     64 * bit s.ota.probing.isSome + 256 * s.ota.pointer.val + 4096 * (s.ota.probes.length % 16)),
   match s.queue p with
   | [] => 0
   | r :: _ => BitVec.ofNat 16 (r.tag % 256 + 256 * (r.deadline % 256)),
   BitVec.ofNat 16 ((mine.map fun r => r.req.tag).getD 0)]

/-- The result word of a bank (section 9.3); 0 for a bank that the region does not have. -/
def bankWord (r : Region) (b : Nat) : Word :=
  match r.banks[b]? with
  | some k => BitVec.ofNat 16 (k.role.code + 4 * bit k.enginePin + 16 * k.pins.toNat)
  | none => 0

/-- The record that a view of QUERY_WINDOW shows: of the active table, or of the staged ADD or CHANGE of the id, a CHANGE with
condition, last status and last cycle of the active record (R42). -/
def viewed (u : Wtu) (staged : Bool) (w : Window) : Prop :=
  if staged then
    ∃ e, u.edits.find? (fun x => x.id == w.id) = some e ∧
      (e.op = .add w ∨ ∃ v old, e.op = .change v ∧ findWindow w.id u.table = some old ∧
        w = { v with cond := old.cond, lastStatus := old.lastStatus, lastCycle := old.lastCycle })
  else findWindow w.id u.table = some w

/-- The request `r` is in progress and its access `a` is on the bus. -/
def requestRuns (s : State) (r : RunningReq) (a : Access) : Prop :=
  s.txe.state = .openRun ∧ s.ota.running = some r ∧ s.tbi.access = some a ∧ a.kind = .request ∧ a.target = r.req.target

/-- The word that a READ which did not time out reports: the one its strobe took, or the one driven now (R117). -/
def wordRead (a : Access) (w : Word) : Word := if a.phase = .recovery then a.data else w

/-- R144: the word of a BLOCK_READ goes to mailbox word offset + i of the owner, and nothing else of any mailbox changes. -/
def mailboxAfter (s t : State) (r : RunningReq) (a : Access) (w : Word) : Prop :=
  (∀ q, q ≠ r.owner → pick t.ota.mailboxes q = pick s.ota.mailboxes q) ∧
    ∀ x, (pick t.ota.mailboxes r.owner).read x =
      if r.req.kind = .blockRead ∧ x = r.req.offset + r.done then wordRead a w else (pick s.ota.mailboxes r.owner).read x

end Sys2Proof.Machine
end

