-- ==== Sys2Proof/Certificates/Slice0/Obligations.lean ====
section
/-!
DEFINITION. Statements about the block, for the provers: def Obligations.<Name> : Prop.
-/
open Sys2Proof Sys2Proof.Machine

/-! ## The step -/

/-- The command at the front of the queue is the one that runs, on the state with the rest of the queue. -/
def Obligations.StepRunsTheFrontCommand : Prop :=
  ∀ (c : Instr) (rest : List Instr) (s : State), s.pending = c :: rest →
    step s = exec c { s with pending := rest }

/-- THE MODEL'S CHOICE (log entry 15): with no command waiting, one reference period passes. Where nothing is owed and no
timer ends, the tick divider and the millisecond timer advance by one and nothing else happens; while RST_N is low nothing
happens at all. -/
def Obligations.IdleStepIsOnePeriod : Prop :=
  (∀ s : State, s.pending = [] → s.resetLow = true → step s = .next s) ∧
  ∀ s : State, s.pending = [] → s.resetLow = false → s.ctm.timebase ≠ .cycling → s.txe.state = .idle →
    s.tbi.access = none → s.tbi.hold = false → s.wtu.boundaryDue = false → s.tbi.boundaryDue = false →
    s.ota.boundaryDue = false → s.agu.handoverDue = false → s.agu.appliedDue = false → s.wtu.limitClearDue = false →
    (∀ h, s.departure h = none) → s.ctm.tickPos + 1 < s.ctm.params.prescale → s.ctm.msPos + 1 < 50000 →
    step s = .next { s with
      ctm := { s.ctm with tickPos := s.ctm.tickPos + 1, msPos := s.ctm.msPos + 1 }, sample := s.sample + 1 }

/-! ## Resets -/

/-- What device reset leaves in every unit, every port, buffer memory and every mailbox, from any state. PRST_N lines and the
model's own queue and count are not the reset's. -/
def Obligations.DeviceResetSetsEverything : Prop :=
  ∀ s : State, ∃ t, exec .deviceReset s = .next t ∧ t.resetLow = true ∧ t.pending = s.pending ∧ t.sample = s.sample ∧
    (t.ctm.params = { run := .stop, mode := .free, length := 1000, prescale := 64, window := 16 } ∧ t.ctm.slot = none ∧
      t.ctm.timebase = .stopped ∧ t.ctm.counter = 0 ∧ t.ctm.cycle = 0 ∧ t.ctm.sync = .unsynced ∧ t.ctm.missed = 0 ∧
      t.ctm.early = false) ∧
    (t.wtu.table = [] ∧ t.wtu.edits = [] ∧ t.wtu.limit = none ∧ t.wtu.runs = []) ∧
    (t.agu.members = 0 ∧ (∀ h, t.departure h = none) ∧ t.agu.proposal = none ∧ t.agu.voteTimer = 0 ∧ t.agu.nextId = 1 ∧
      t.agu.lastOutcome = none) ∧
    ((∀ i, t.region i = none) ∧ (∀ a, t.rgm.mem.read a = 0) ∧ (∀ h a, t.readHandle h a = none) ∧
      (∀ h, t.writeHandle h = none) ∧ t.rgm.claim = none) ∧
    (t.txe.state = .idle ∧ t.txe.ctx = none ∧ t.txe.pendingStart = none ∧ t.txe.claim = none ∧ t.txe.spent = none) ∧
    ((∀ h, t.queue h = []) ∧ (∀ h j, (pick t.ota.mailboxes h).read j = 0) ∧ t.ota.running = none ∧ t.ota.probes = [] ∧
      t.ota.probing = none ∧ t.ota.pointer = 3) ∧
    ((∀ x, t.target x = .disabled ∧ t.profile x =
        { setup := 4, strobe := 16, recovery := 16, handshake := false, timeout := 255, burst := false }) ∧
      t.tbi.pendingSettings = none ∧ t.tbi.access = none ∧ t.tbi.hold = true) ∧
    ∀ p, (t.port p).state = .idle ∧ (t.port p).lastCommand = 0 ∧ (t.port p).lastStatus = 0 ∧
      (∀ i, pick (t.port p).params i = 0) ∧ (∀ i, pick (t.port p).segArea i = 0) ∧ (t.port p).captured = none ∧
      (∀ i, pick (t.port p).results i = 0) ∧ (t.port p).events = [] ∧ (t.port p).overflow = false ∧
      (∀ i, pick (t.port p).popped i = 0) ∧ (t.port p).irqEnable = false ∧ (t.port p).accessError = false ∧
      (t.port p).issueBusy = false ∧ (∀ a, pick (t.port p).readBind a = none) ∧ (t.port p).writeBind = none ∧
      (t.port p).discard = false ∧ (t.port p).cmark = false ∧ (t.port p).resetLow = (s.port p).resetLow

/-- The end of device reset starts the tick divider, the millisecond timer and the measure of the 100 µs, and changes nothing
else; device reset followed by its end leaves the state the model starts in (PRST_N lines high: log entry 2).
100 µs after the end of device reset the hold becomes CLEAR and nothing else changes, unless an access waited for it: a
probe of a PROBING target that waited begins its access, one READ of register 0 from its setup phase on. -/
def Obligations.DeviceResetAndItsHoldEnd : Prop :=
  (∀ s : State, s.resetLow = true → exec .deviceResetEnd s = .next { s with
      resetLow := false, ctm := { s.ctm with tickPos := 0, msPos := 0 }, tbi := { s.tbi with holdPos := 0 } }) ∧
  (∀ s : State, (∀ p, (s.port p).resetLow = false) → ∃ t, exec .deviceReset s = .next t ∧
    exec .deviceResetEnd t = .next { State.reset with sample := s.sample, pending := s.pending }) ∧
  (∀ s : State, s.resetLow = false → s.tbi.hold = true → s.txe.waiting = false →
    exec .resetHoldEnd s = .next { s with tbi := { s.tbi with hold := false, holdPos := 0 } }) ∧
  ∀ (s : State) (x : TargetId), s.resetLow = false → s.tbi.hold = true → s.txe.waiting = true → s.txe.state = .openRun →
    s.ota.running = none → s.ota.probing = some x → s.target x = .probing →
    exec .resetHoldEnd s = .next { s with
      txe := { s.txe with waiting := false }
      tbi := { s.tbi with
        hold := false, holdPos := 0
        access := some { target := x, reg := 0, write := false, kind := .probe, data := 0, profile := s.profile x
                         burst := false, phase := .setup, elapsed := 0, timedOut := false } } }

/-- A port reset of a host that is not a member clears the port's registers, flags and queue and the host's mailbox, and
nothing else: no departure. A held JOIN is withdrawn; a LEAVE whose answer is still awaited sets the discard mark.
The end of a port reset lets the port take accesses again and changes nothing else.
A port reset of a member takes a departure with cause PORT_RESET first: the host leaves the member set and is departing until
five units have taken the report, and every remaining member is told. Here no proposal exists. -/
def Obligations.PortResetsClearAndDepart : Prop :=
  (∀ (s : State) (p : HostId), (s.port p).resetLow = false → s.isMember p = false →
    ∃ t, exec (.portReset p) s = .next t ∧
      t = { s with ports := t.ports, ota := { s.ota with mailboxes := put s.ota.mailboxes p [] } } ∧ otherPorts p s t ∧
      ((s.port p).discard = false → (s.port p).state ≠ .busy → t.port p = clearedPort (s.port p) false none) ∧
      (∀ c, (s.port p).discard = false → (s.port p).state = .busy → (s.port p).captured = some c → c.code = 0x01 →
        t.port p = clearedPort (s.port p) false none) ∧
      (∀ c, (s.port p).state = .busy → (s.port p).captured = some c → c.code = 0x02 →
        t.port p = clearedPort (s.port p) true (some c)) ∧
      ((s.port p).discard = true → t.port p = clearedPort (s.port p) true (s.port p).captured)) ∧
  (∀ (s : State) (p : HostId), ∃ t, exec (.portResetEnd p) s = .next t ∧ t = { s with ports := t.ports } ∧ otherPorts p s t ∧
    t.port p = { s.port p with resetLow := false } ∧ t.open p = !s.resetLow) ∧
  ∀ (s : State) (p : HostId), (s.port p).resetLow = false → s.isMember p = true → s.agu.proposal = none →
    ∃ t, exec (.portReset p) s = .next t ∧
      t = { s with
        ports := t.ports, ota := { s.ota with mailboxes := put s.ota.mailboxes p [] }
        agu := { s.agu with
          members := HostSet.minus s.agu.members p
          departing := put s.agu.departing p (some ⟨.portReset, [.ctm, .wtu, .rgm, .ota, .port]⟩) } } ∧
      (∀ q, q ≠ p → t.port q = s.told (.left p .portReset (HostSet.minus s.agu.members p)) q) ∧
      ((s.port p).state ≠ .busy → (s.port p).discard = false → t.port p = clearedPort (s.port p) false none)

/-! ## Time -/

/-- The end of a tick below L - 1 advances the counter by one while CYCLING, whatever else is owed, and makes the start at the
new counter value due; where nothing is owed it only releases the cycle-mark lines besides. While not CYCLING the counter
stays.
That a tick first takes what is owed at the counter value before it is the model's choice (log entry 16). -/
def Obligations.TickAdvancesTheCounter : Prop :=
  (∀ s : State, s.ctm.timebase = .cycling → s.ctm.counter + 1 < s.ctm.params.length →
    ∃ t, exec .tick s = .next t ∧ t.ctm = { s.ctm with counter := s.ctm.counter + 1, tickPos := 0 } ∧
      t.wtu.announceDue = true ∧ (∀ p, (t.port p).cmark = false) ∧ t.pending = s.pending) ∧
  (∀ s : State, quiet s → s.ctm.timebase = .cycling → s.ctm.counter + 1 < s.ctm.params.length →
    ∃ t, exec .tick s = .next t ∧ t = { s with
        ctm := { s.ctm with counter := s.ctm.counter + 1, tickPos := 0 }, wtu := { s.wtu with announceDue := true }
        ports := t.ports } ∧
      ∀ p, t.port p = { s.port p with cmark := false }) ∧
  ∀ s : State, quiet s → s.ctm.timebase ≠ .cycling →
    ∃ t, exec .tick s = .next t ∧ t = { s with ctm := { s.ctm with tickPos := 0 }, ports := t.ports } ∧
      ∀ p, t.port p = { s.port p with cmark := false }

/-- In FREE mode a tick that ends with the counter at L - 1 makes a boundary: counter 0, cycle number one more (wrapping), early
mark CLEAR, the members' cycle-mark lines asserted, the boundary announced to WTU, TBI, OTA and the engine. With the slot
EMPTY the parameters stay and AGU is told nothing. A FULL slot is taken and becomes EMPTY, and AGU is told: STOP leaves the
timebase STOPPED, RUN with FREE leaves it CYCLING under the new L and P, RUN with FOLLOW leaves it ACQUIRING.
In FOLLOW mode the same end of the count makes an internal boundary: the missed-pulse count rises by one and stops at 255, the
sub-state is HOLDOVER for 1 to 3 and LOST for 4 or more. A FULL slot is taken there too: STOP leaves STOPPED, RUN with FREE
leaves CYCLING in FREE, both with sub-state NONE and missed count 0; RUN with FOLLOW leaves CYCLING with the cause's sub-state
and count. One SYNC_STATE goes to every member exactly when the sub-state after all this differs from the one before.
Reactions of the other units follow as rows of their own or before the next tick (log entry 16). -/
def Obligations.CountMakesABoundary : Prop :=
  (∀ s : State, quiet s → s.ctm.timebase = .cycling → s.ctm.params.mode = .free →
    s.ctm.counter + 1 = s.ctm.params.length → s.ctm.slot = none →
    ∃ t, exec .cycleEndBoundary s = .next t ∧ t.agu = s.agu ∧
      announced s { s.ctm with counter := 0, tickPos := 0, cycle := s.ctm.cycle + 1, early := false } t ∧
      ∀ p, t.port p = { s.port p with cmark := s.isMember p }) ∧
  (∀ (s : State) (n : CycleParams), quiet s → s.ctm.timebase = .cycling → s.ctm.params.mode = .free →
    s.ctm.counter + 1 = s.ctm.params.length → s.ctm.slot = some n → s.ctm.sync = .unsynced →
    ∃ t, exec .cycleEndBoundary s = .next t ∧ t.agu = { s.agu with appliedDue := true } ∧
      announced s { s.ctm with
        params := n, slot := none, missed := 0, counter := 0, tickPos := 0, cycle := s.ctm.cycle + 1, early := false
        timebase := if n.run = .stop then .stopped else if n.mode = .free then .cycling else .acquiring } t ∧
      ∀ p, t.port p = { s.port p with cmark := s.isMember p }) ∧
  ∀ s : State, quiet s → s.ctm.timebase = .cycling → s.ctm.params.mode = .follow →
    s.ctm.counter + 1 = s.ctm.params.length →
    let n := if s.ctm.missed < 255 then s.ctm.missed + 1 else 255
    let now : SyncState := if n ≤ 3 then .holdover else .lost
    (s.ctm.slot = none →
      ∃ t, exec .cycleEndBoundary s = .next t ∧ t.agu = s.agu ∧ announced s (s.ctm.ended now n) t ∧
        ∀ p, t.port p = markedPort s now n p) ∧
    ∀ q, s.ctm.slot = some q →
      let c := (s.ctm.ended now n).took q
      ∃ t, exec .cycleEndBoundary s = .next t ∧ t.agu = { s.agu with appliedDue := true } ∧ announced s c t ∧
        ∀ p, t.port p = markedPort s c.sync c.missed p

/-- A SYNC_IN pulse is ignored while STOPPED and while CYCLING in FREE mode. In FOLLOW mode below L - W it is early: the first of
a cycle sets the early mark and tells every member, a later one does nothing. From L - W on it makes a boundary, LOCKED with
missed count 0; a FULL slot is taken at that boundary, STOP leaving STOPPED and RUN with FREE leaving CYCLING in FREE, both
with sub-state NONE, RUN with FOLLOW leaving CYCLING and LOCKED.
A pulse in ACQUIRING starts cycle 0: CYCLING and LOCKED, counter and cycle number 0, early mark CLEAR, SYNC_STATE from NONE
to every member, no cycle-mark pulse, no boundary announced, and WTU announces the start at counter 0 in the same step. Where
no ACTIVE window that starts at 0 is selected for cycle 0, that is all. Here OTA's choice hands nothing over: the engine is
not IDLE, or nothing is queued. While WTU's reaction to an earlier boundary is outstanding the start waits for the end of that
reaction, which is the model's reading (log entry 40). No cycle-mark pulse is given; that a line which an earlier boundary
asserted, and which is still asserted, stays so at the start of cycle 0 is the model's choice (log entry 33). -/
def Obligations.SyncPulseByStateAndCounter : Prop :=
  (∀ s : State, s.ctm.timebase = .stopped ∨ (s.ctm.timebase = .cycling ∧ s.ctm.params.mode = .free) →
    exec .syncInPulse s = .next s) ∧
  (∀ s : State, s.ctm.timebase = .cycling → s.ctm.params.mode = .follow →
    s.ctm.counter < s.ctm.params.length - s.ctm.params.window → s.ctm.early = true → exec .syncInPulse s = .next s) ∧
  (∀ s : State, s.ctm.timebase = .cycling → s.ctm.params.mode = .follow →
    s.ctm.counter < s.ctm.params.length - s.ctm.params.window → s.ctm.early = false →
    ∃ t, exec .syncInPulse s = .next t ∧ t = { s with ctm := { s.ctm with early := true }, ports := t.ports } ∧
      ∀ p, t.port p = s.told (.syncEarly s.ctm.counter (lowWord s.ctm.cycle)) p) ∧
  (∀ s : State, s.ctm.timebase = .cycling → s.ctm.params.mode = .follow →
    s.ctm.params.length - s.ctm.params.window ≤ s.ctm.counter →
    (s.ctm.slot = none →
      ∃ t, exec .syncInPulse s = .next t ∧ t.agu = s.agu ∧ announced s (s.ctm.ended .locked 0) t ∧
        ∀ p, t.port p = markedPort s .locked 0 p) ∧
    ∀ q, s.ctm.slot = some q →
      let c := (s.ctm.ended .locked 0).took q
      ∃ t, exec .syncInPulse s = .next t ∧ t.agu = { s.agu with appliedDue := true } ∧ announced s c t ∧
        ∀ p, t.port p = markedPort s c.sync c.missed p) ∧
  ∀ s : State, s.ctm.timebase = .acquiring → s.ctm.sync = .unsynced →
    s.txe.state ≠ .idle ∨ (s.ota.probes = [] ∧ ∀ h, s.queue h = []) →
    ∃ t, t.ctm = { s.ctm with
        timebase := .cycling, counter := 0, cycle := 0, tickPos := 0, early := false, sync := .locked, missed := 0 } ∧
      t = { s with ctm := t.ctm, wtu := { s.wtu with announceDue := true }, ports := t.ports } ∧
      (∀ p, t.port p = s.told (.syncState .locked .unsynced 0 0) p) ∧
      exec .syncInPulse s = exec .windowStartAnnounce t ∧
      (s.wtu.boundaryDue = true ∨ (∀ w ∈ s.wtu.table, w.start = 0 → w.cond = .active → 0 % w.divisor ≠ w.phase) →
        exec .syncInPulse s = .next t)

/-- A millisecond mark lowers the vote timer of a PENDING proposal by one, and ends the proposal EXPIRED when the timer reaches 0.
While no record exists or the record is AGREED it leaves the timer. PROPOSAL_EXPIRE is that last mark: the
PENDING proposal whose vote timer stands at 1 ends EXPIRED.
That PROPOSAL_EXPIRE is the mark which ends the proposal is the model's reading (log entry 12). -/
def Obligations.MillisecondMarksCountTheVote : Prop :=
  (∀ (s : State) (r : Proposal), s.agu.proposal = some r → r.state = .waiting → 2 ≤ s.agu.voteTimer →
    exec .msMark s = .next { s with
      ctm := { s.ctm with msPos := 0 }, agu := { s.agu with voteTimer := s.agu.voteTimer - 1 } }) ∧
  (∀ s : State, (∀ r ∈ s.agu.proposal, r.state = .agreed) →
    exec .msMark s = .next { s with ctm := { s.ctm with msPos := 0 } }) ∧
  (∀ (s : State) (r : Proposal), s.agu.proposal = some r → r.state = .waiting → s.agu.voteTimer = 1 →
    ∃ t, exec .msMark s = .next t ∧ proposalEnds r .expired 0 s t ∧
      t = { s with
        ctm := { s.ctm with msPos := 0 }, wtu := t.wtu, ports := t.ports
        agu := { s.agu with proposal := none, lastOutcome := some (r.id, .expired), voteTimer := 0 } }) ∧
  ∀ (s : State) (r : Proposal), s.agu.proposal = some r → r.state = .waiting → s.agu.voteTimer = 1 →
    ∃ t, exec .proposalExpire s = .next t ∧ proposalEnds r .expired 0 s t ∧
      t = { s with
        wtu := t.wtu, ports := t.ports
        agu := { s.agu with proposal := none, lastOutcome := some (r.id, .expired), voteTimer := 0 } }

/-! ## Reactions to a boundary -/

/-- WTU's reaction to a boundary is one step: every staged edit applied in list order, every ORPHANED window gone, the runs of windows
that left the table marked, the list empty, one EDITS_APPLIED to each member that had edits applied, with the number of the
cycle the boundary began, and then the start due at counter 0 announced from the resulting table. Where no window of that
table is due, that is all. Here no region is RETIRING.
That without a boundary outstanding the row does nothing is the model's choice (log entry 10). -/
def Obligations.WtuReactionAppliesTheEdits : Prop :=
  (∀ s : State, s.wtu.boundaryDue = false → exec .wtuBoundaryReaction s = .next s) ∧
  ∀ s : State, s.wtu.boundaryDue = true → noRetiring s →
    ∃ t, t = { s with wtu := t.wtu, ports := t.ports } ∧
      t.wtu = { s.wtu with
        table := (s.wtu.edits.foldl applyEdit s.wtu.table).filter (fun w => w.cond == .active)
        edits := [], boundaryDue := false, announceDue := decide (s.ctm.timebase = .cycling)
        runs := s.wtu.runs.map fun r =>
          if s.wtu.edits.any (fun e => e.id == r.id && e.op == .remove) ||
            (s.wtu.edits.foldl applyEdit s.wtu.table).any (fun w => w.cond == .orphaned && w.id == r.id)
          then { r with removed := true } else r } ∧
      (∀ h, t.port h =
        let n := (s.wtu.edits.filter fun e => e.issuer == h).length
        if n = 0 then s.port h else s.told (.editsApplied n s.wtu.boundaryCycle) h) ∧
      exec .wtuBoundaryReaction s = exec .windowStartAnnounce t ∧
      (s.ctm.timebase ≠ .cycling ∨
          (∀ w ∈ t.wtu.table, w.start = s.ctm.counter → s.ctm.cycle.toNat % w.divisor ≠ w.phase) →
        exec .wtuBoundaryReaction s = .next t)

/-- TBI's reaction to a boundary takes the pending settings if they are FULL and does nothing else: the profile is replaced whole,
an ONLINE target stays ONLINE under enable YES and becomes DISABLED under enable NO with one TARGET_STATE to every member, and
AGU is told.
That without a boundary outstanding the row does nothing is the model's choice (log entry 10). -/
def Obligations.TbiReactionTakesThePendingSettings : Prop :=
  (∀ s : State, s.tbi.boundaryDue = false → exec .tbiBoundaryReaction s = .next s) ∧
  (∀ s : State, s.tbi.boundaryDue = true → s.tbi.pendingSettings = none →
    exec .tbiBoundaryReaction s = .next { s with tbi := { s.tbi with boundaryDue := false } }) ∧
  ∀ (s : State) (n : TargetSettings), s.tbi.boundaryDue = true → s.tbi.pendingSettings = some n → s.target n.target = .online →
    ∃ t, exec .tbiBoundaryReaction s = .next t ∧
      t = { s with
        agu := { s.agu with appliedDue := true }, ports := t.ports
        tbi := { s.tbi with
          boundaryDue := false, pendingSettings := none, profiles := put s.tbi.profiles n.target n.profile
          states := put s.tbi.states n.target (if n.enable then .online else .disabled) } } ∧
      ∀ q, t.port q =
        if n.enable then s.port q else s.told (.targetState n.target .disabled .online .disable) q

/-- OTA's reaction to a boundary lowers the deadline of every queued request; here none of them expires and the engine is not
IDLE, so that no choice is made. That without a boundary outstanding the row does nothing is the model's choice (log entry 10).
A queued request whose deadline reaches 0 at the boundary OTA is reacting to leaves its queue, and REQUEST_DONE (EXPIRED, no
words done) goes to its owner if it is a member; the first such request, in host order. Here the engine is not IDLE.
That one row is one request of OTA's reaction is the model's choice (log entry 9). -/
def Obligations.OtaReactionLowersDeadlinesAndExpires : Prop :=
  (∀ s : State, s.ota.boundaryDue = false → exec .otaBoundaryReaction s = .next s) ∧
  (∀ s : State, s.ota.boundaryDue = true → s.txe.state ≠ .idle → (∀ h, ∀ r ∈ s.queue h, r.deadline ≠ 1) →
    ∃ t, exec .otaBoundaryReaction s = .next t ∧
      t = { s with ota := { s.ota with queues := t.ota.queues, boundaryDue := false } } ∧
      ∀ h, t.queue h = (s.queue h).map fun r => { r with deadline := r.deadline - 1 }) ∧
  ∀ (s : State) (h : HostId) (pre post : List Request) (r : Request), s.ota.boundaryDue = true → s.txe.state ≠ .idle →
    (∀ k, k < h → ∀ x ∈ s.queue k, x.deadline ≠ 1) → s.queue h = pre ++ r :: post → (∀ x ∈ pre, x.deadline ≠ 1) →
    r.deadline = 1 →
    ∃ t, exec .requestExpired s = .next t ∧
      t = { s with ota := { s.ota with queues := put s.ota.queues h (pre ++ post) }, ports := t.ports } ∧
      ∀ q, t.port q = if q = h then s.told (.requestDone r.tag .expired r.kind r.target 0) h else s.port q

/-! ## Windows -/

/-- The start of an IN window finds the engine IDLE, its target ONLINE and a FREE bank in its region: the lowest FREE bank becomes
FILLING for the engine, the engine is in WINDOW at the first word, and the READ of that word begins.
The start of an OUT window finds the engine IDLE, its target ONLINE and a PUBLISHED bank in its region: the bank takes the
engine pin, and the WRITE of the first word, read from the bank, begins. -/
def Obligations.WindowStartClaimsABankAndBeginsItsFirstAccess : Prop :=
  (∀ (s : State) (pre post : List Window) (w : Window) (g : Segment) (gs : List Segment) (r : Region) (b : Nat) (k : Bank),
    dueIs s pre post w → w.dir = .dirIn → w.segs = g :: gs → 0 < w.dur → s.txe.state = .idle →
    s.target w.target = .online → s.tbi.hold = false → s.region w.region = some r → r.banks[b]? = some k → k.role = .free →
    (∀ x ∈ r.banks.take b, x.role ≠ .free) →
    exec .windowStartAnnounce s = .next { s with
      wtu := runListed s w
      txe := windowBegun (copyOf s w) b 0
      rgm := { s.rgm with
        regions := put s.rgm.regions w.region
          (some { r with banks := r.banks.set b { k with role := .filling .engine } })
        claim := some ⟨.fill, w.region, b⟩ }
      tbi := { s.tbi with access := some (firstAccess s (copyOf s w) g false 0) } }) ∧
  ∀ (s : State) (pre post : List Window) (w : Window) (g : Segment) (gs : List Segment) (r : Region) (b : Nat) (k : Bank),
    dueIs s pre post w → w.dir = .dirOut → w.segs = g :: gs → 0 < w.dur → s.txe.state = .idle →
    s.target w.target = .online → s.tbi.hold = false → s.region w.region = some r → r.banks[b]? = some k →
    k.role = .published → (∀ x ∈ r.banks.take b, x.role ≠ .published) →
    exec .windowStartAnnounce s = .next { s with
      wtu := runListed s w
      txe := windowBegun (copyOf s w) b k.content
      rgm := { s.rgm with
        regions := put s.rgm.regions w.region (some { r with banks := r.banks.set b { k with enginePin := true } })
        claim := some ⟨.drain, w.region, b⟩ }
      tbi := { s.tbi with
        access := some (firstAccess s (copyOf s w) g true (s.rgm.mem.read (32 * (r.base + b * r.size) + g.offset))) } }

/-- A start whose target is not ONLINE, whose IN region has no FREE bank, or whose OUT region has no PUBLISHED bank ends at
once with its status: no claim, no access, the engine keeps the span spent and of the window its end time alone, and the status
and cycle go into the window's record. WINDOW_DONE carries the region's current generation. Here the window's notify is YES, its
region exists, and no other run of it is outstanding.
That the position of an engine without a window is segment 0 and word 0 is the model's choice (log entry 38). -/
def Obligations.FailedStartEndsAtOnce : Prop :=
  ∀ (s : State) (pre post : List Window) (w : Window) (r : Region) (st : WindowStatus),
    dueIs s pre post w → 0 < w.dur → s.txe.state = .idle → w.notify = true → s.region w.region = some r →
    (∀ x ∈ s.wtu.runs, x.id ≠ w.id) → (∀ v ∈ pre, v.id ≠ w.id) → (∀ v ∈ post, v.id ≠ w.id) →
    (s.target w.target = .disabled ∧ st = .targetDisabled) ∨
      ((s.target w.target = .faulted ∨ s.target w.target = .probing) ∧ st = .targetFaulted) ∨
      (s.target w.target = .online ∧ w.dir = .dirIn ∧ (∀ k ∈ r.banks, k.role ≠ .free) ∧ st = .noBank) ∨
      (s.target w.target = .online ∧ w.dir = .dirOut ∧ (∀ k ∈ r.banks, k.role ≠ .published) ∧ st = .noData) →
    ∃ t, exec .windowStartAnnounce s = .next t ∧
      t = { s with
        wtu := { s.wtu with
          announceDue := false
          table := pre ++ { w with lastStatus := st, lastCycle := lowWord s.ctm.cycle } :: post }
        txe := spentUntil (w.start + w.dur)
        ports := t.ports } ∧
      ∀ q, t.port q =
        if q = w.owner then s.told (.windowDone w.id st (lowWord s.ctm.cycle) r.generation) q else s.port q

/-- The end time of a spent window releases its span: with no start pending and nothing for the arbiter to serve the engine becomes
IDLE. For a running window with an access in progress the end time is taken and the access goes on.
The mark endTaken is the model's own way to hold it (log entry 23).
That the position of an engine without a window is segment 0 and word 0 is the model's choice (log entry 38). -/
def Obligations.WindowEndTimeReleasesOrIsTaken : Prop :=
  (∀ (s : State) (e : SpentEnd), s.txe.state = .window → s.txe.spent = some e →
    (e.crossed = true ∨ e.endTime ≤ s.ctm.counter) → s.txe.pendingStart = none → s.ota.probes = [] →
    (∀ h, s.queue h = []) → exec .windowEndTime s = .next { s with txe := resetTxe }) ∧
  ∀ (s : State) (c : RunCopy) (a : Access), s.txe.state = .window → s.txe.ctx = some c → s.txe.spent = none →
    s.txe.endTaken = false → (c.crossed = true ∨ c.endTime ≤ s.ctm.counter) → s.tbi.access = some a →
    exec .windowEndTime s = .next { s with txe := { s.txe with endTaken := true } }

/-- A start that finds the engine in OPEN with an access in progress is held as the pending start, and the access goes on; with no
access in progress the request in progress ends ABORTED at once and the engine takes the start. A start that finds a window
running with an access in progress is held, and the window's end time is taken; a pending start already held is displaced:
it ends OVERRUN, with the status and cycle in its window's record, WINDOW_DONE with the region's current generation, and no
claim reported. A start that finds a window spent is taken as an IDLE engine takes it.
The mark endTaken is the model's own way to hold an end time that was taken (log entry 23). -/
def Obligations.StartFindsTheEngineBusy : Prop :=
  (∀ (s : State) (pre post : List Window) (w : Window) (a : Access), dueIs s pre post w → s.txe.state = .openRun →
    s.tbi.access = some a → s.txe.pendingStart = none →
    exec .windowStartAnnounce s = .next { s with
      wtu := runListed s w, txe := { s.txe with pendingStart := some (copyOf s w) } }) ∧
  (∀ (s : State) (pre post : List Window) (w : Window) (r : RunningReq), dueIs s pre post w → 0 < w.dur → w.segs ≠ [] →
    w.notify = false → s.txe.state = .openRun → s.tbi.access = none → s.ota.running = some r → r.former = false →
    (s.region w.region).isSome = true →
    ∃ t, exec .windowStartAnnounce s = .next t ∧ t.txe.state = .window ∧ t.txe.pendingStart = none ∧
      t.ota = { s.ota with running := none } ∧
      ∀ q, t.port q =
        if q = r.owner then
          s.told (.requestDone r.req.tag .aborted r.req.kind r.req.target (BitVec.ofNat 16 r.done)) q
        else s.port q) ∧
  (∀ (s : State) (pre post : List Window) (w : Window) (a : Access), dueIs s pre post w → s.txe.state = .window →
    s.txe.spent = none → s.tbi.access = some a → s.txe.pendingStart = none →
    exec .windowStartAnnounce s = .next { s with
      wtu := runListed s w, txe := { s.txe with pendingStart := some (copyOf s w), endTaken := true } }) ∧
  (∀ (s : State) (pre post : List Window) (w v : Window) (a : Access) (c : RunCopy) (r : Region) (old young : List OutRun),
    dueIs s pre post w → s.txe.state = .window → s.txe.spent = none → s.tbi.access = some a →
    s.txe.pendingStart = some c → s.region c.region = some r → c.notify = true →
    s.wtu.runs = old ++ ⟨c.id, c.cycle, false⟩ :: young → (∀ x ∈ old, x.id ≠ c.id ∨ x.cycle ≠ c.cycle) →
    findWindow c.id s.wtu.table = some v → v.cond = .active →
    ∃ t, exec .windowStartAnnounce s = .next t ∧
      t = { s with
        wtu := { runListed s w with
          runs := old ++ young ++ [⟨w.id, lowWord s.ctm.cycle, false⟩]
          table := s.wtu.table.map fun x =>
            if x.id = c.id then { x with lastStatus := .overrun, lastCycle := c.cycle } else x }
        txe := { s.txe with pendingStart := some (copyOf s w), endTaken := true }
        ports := t.ports } ∧
      ∀ q, t.port q =
        if q = c.owner then s.told (.windowDone c.id .overrun c.cycle r.generation) q else s.port q) ∧
  ∀ (s : State) (pre post : List Window) (w : Window) (e : SpentEnd), dueIs s pre post w → s.txe.state = .window →
    s.txe.spent = some e →
    exec .windowStartAnnounce s = exec .windowStartAnnounce { s with txe := resetTxe }

/-- What was pending or overdue is settled when the access in progress ends. An IN window whose end time was taken meanwhile ends
OVERRUN: the word is written into the bank before the bank is given back FREE with its content generation, the status and
cycle go into the record, and the engine is IDLE. A request that a pending start was waiting for ends ABORTED with the words
done, the word of a BLOCK_READ in the owner's mailbox and no other mailbox word changed, and the engine takes the start; a pending start whose end time has been reached is not run: it ends OVERRUN with no
claim and no access, and the engine is IDLE. Here the window's notify is NO, one run is outstanding, no region is RETIRING, and
nothing is left to serve.
When ACCESS_COMPLETE comes is the sender's (log entry 11).
That the position of an engine without a window is segment 0 and word 0 is the model's choice (log entry 38). -/
def Obligations.AccessEndSettlesWhatWaited : Prop :=
  (∀ (s : State) (c : RunCopy) (a : Access) (b : Nat) (k : Bank) (r : Region) (g : Segment) (w : Word) (v : Window),
    s.txe.state = .window → s.txe.ctx = some c → c.dir = .dirIn → c.notify = false → s.txe.claim = some ⟨b, 0⟩ →
    s.region c.region = some r → c.segs[s.txe.seg]? = some g → s.txe.endTaken = true → s.tbi.access = some a →
    a.kind = .window → a.timedOut = false → a.phase = .strobe → s.rgm.claim = some ⟨.fill, c.region, b⟩ →
    r.banks[b]? = some k → r.retire = none → 32 * (r.base + b * r.size) + (g.offset + s.txe.word) < 24576 →
    s.wtu.runs = [⟨c.id, c.cycle, false⟩] → s.wtu.table = [v] → v.id = c.id → s.txe.pendingStart = none →
    s.ota.probes = [] → (∀ h, s.queue h = []) →
    exec (.accessComplete w) s = .next { s with
      txe := resetTxe, tbi := { s.tbi with access := none }
      wtu := { s.wtu with runs := [], table := [{ v with lastStatus := .overrun, lastCycle := c.cycle }] }
      rgm := { s.rgm with
        mem := s.rgm.mem.write (32 * (r.base + b * r.size) + (g.offset + s.txe.word)) w
        claim := none
        regions := put s.rgm.regions c.region (some { r with banks := r.banks.set b { k with role := .free } }) } }) ∧
  (∀ (s : State) (r : RunningReq) (a : Access) (c : RunCopy) (w : Word), s.memoryOk → s.txe.state = .openRun →
    s.ota.running = some r → r.former = false → s.tbi.access = some a → a.kind = .request → a.timedOut = false →
    r.done + 1 < r.req.count → (r.req.kind = .blockRead → r.req.offset + r.done < 256) → s.txe.pendingStart = some c → c.crossed = false → s.ctm.counter < c.endTime → c.segs ≠ [] → c.notify = false →
    (s.region c.region).isSome = true →
    ∃ t, exec (.accessComplete w) s = .next t ∧ t.txe.state = .window ∧ t.txe.pendingStart = none ∧
      t.ota = { s.ota with running := none, mailboxes := t.ota.mailboxes } ∧ mailboxAfter s t r a w ∧
      ∀ q, t.port q =
        if q = r.owner then
          s.told (.requestDone r.req.tag .aborted r.req.kind r.req.target (BitVec.ofNat 16 (r.done + 1))) q
        else s.port q) ∧
  ∀ (s : State) (r : RunningReq) (a : Access) (c : RunCopy) (w : Word) (v : Window), s.memoryOk → s.txe.state = .openRun →
    s.ota.running = some r → r.former = false → s.tbi.access = some a → a.kind = .request → a.timedOut = false →
    r.done + 1 < r.req.count → (r.req.kind = .blockRead → r.req.offset + r.done < 256) → s.txe.pendingStart = some c → (c.crossed = true ∨ c.endTime ≤ s.ctm.counter) →
    c.notify = false → (s.region c.region).isSome = true → s.wtu.runs = [⟨c.id, c.cycle, false⟩] → s.wtu.table = [v] →
    v.id = c.id → s.ota.probes = [] → (∀ h, s.queue h = []) →
    ∃ t, exec (.accessComplete w) s = .next t ∧
      t = { s with
        txe := resetTxe, tbi := { s.tbi with access := none }
        wtu := { s.wtu with runs := [], table := [{ v with lastStatus := .overrun, lastCycle := c.cycle }] }
        ota := { s.ota with running := none, mailboxes := t.ota.mailboxes }
        ports := t.ports } ∧
      mailboxAfter s t r a w ∧
      ∀ q, t.port q =
        if q = r.owner then
          s.told (.requestDone r.req.tag .aborted r.req.kind r.req.target (BitVec.ofNat 16 (r.done + 1))) q
        else s.port q

/-- The end of open time, at a boundary or with the counter at E, lets an access in progress complete and ends what is between
accesses. A request ends ABORTED with the words it completed, its owner is told unless the request is of a former membership,
and the engine becomes IDLE. A probe whose access has not begun goes back to the head of the probe queue while its target is
PROBING and is over otherwise; where the choice that follows finds open time for it, as at a boundary, its access begins at
once. Here no start is pending and, but for that probe, nothing is queued.
The mark that holds the end at a boundary is the model's own form of it (log entry 23).
That the position of an engine without a window is segment 0 and word 0 is the model's choice (log entry 38). -/
def Obligations.OpenTimeEndStopsTheRequest : Prop :=
  (∀ (s : State) (a : Access), s.txe.state = .openRun → s.txe.stopping = false → openTimeEnded s → s.tbi.access = some a →
    exec .openTimeEnd s = .next { s with txe := { s.txe with stopDue := false, stopping := true } }) ∧
  (∀ (s : State) (r : RunningReq), s.txe.state = .openRun → s.txe.stopping = false → openTimeEnded s →
    s.tbi.access = none → s.ota.running = some r → s.txe.pendingStart = none → s.ota.probes = [] →
    (∀ h, s.queue h = []) →
    ∃ t, exec .openTimeEnd s = .next t ∧
      t = { s with txe := resetTxe, ota := { s.ota with running := none }, ports := t.ports } ∧
      ∀ q, t.port q =
        if q = r.owner ∧ r.former = false then
          s.told (.requestDone r.req.tag .aborted r.req.kind r.req.target (BitVec.ofNat 16 r.done)) q
        else s.port q) ∧
  ∀ (s : State) (x : TargetId), s.txe.state = .openRun → s.txe.stopping = false → openTimeEnded s → s.tbi.access = none →
    s.ota.running = none → s.ota.probing = some x → s.txe.pendingStart = none → (∀ h, s.queue h = []) →
    (s.target x = .probing → ¬ fitsOpen s (probeTicks s x) →
      exec .openTimeEnd s = .next { s with
        txe := resetTxe, ota := { s.ota with probing := none, probes := x :: s.ota.probes } }) ∧
    (s.target x = .probing → fitsOpen s (probeTicks s x) → noStartDue s → s.tbi.hold = false →
      exec .openTimeEnd s = .next { s with
        txe := { resetTxe with state := .openRun }, tbi := { s.tbi with access := some (probeBegun s x) } }) ∧
    (s.target x ≠ .probing → s.ota.probes = [] →
      exec .openTimeEnd s = .next { s with txe := resetTxe, ota := { s.ota with probing := none } })

/-! ## Accesses -/

/-- The ready timeout ends the strobe of a handshaking access; recovery follows, and a READ will report the word 0. That the row
ends the strobe whatever the units counted so far, and from the setup phase too, is the model's choice (log entry 11).
At the end of that access a ready timeout of a window's access takes an ONLINE target out of service before the window ends
TARGET_TIMEOUT: FAULTED, and TARGET_STATE to every member. The window then keeps its span spent, and of the window its end
time alone. Here it is an OUT window with one run outstanding, notify NO, on a PUBLISHED bank of a region that is not RETIRING,
before its end time.
That the position of an engine without a window is segment 0 and word 0 is the model's choice (log entry 38). -/
def Obligations.ReadyTimeoutEndsTheStrobeAndFaultsTheTarget : Prop :=
  (∀ (s : State) (a : Access), s.tbi.access = some a → a.profile.handshake = true → a.phase ≠ .recovery →
    exec .readyTimeout s = .next { s with
      tbi := { s.tbi with
        access := some { a with phase := .recovery, elapsed := 0, timedOut := true, data := if a.write then a.data else 0 } } }) ∧
  ∀ (s : State) (c : RunCopy) (a : Access) (b : Nat) (k : Bank) (r : Region) (gen : BitVec 32) (w : Word) (v : Window),
    s.txe.state = .window → s.txe.ctx = some c → c.dir = .dirOut → c.notify = false → s.txe.claim = some ⟨b, gen⟩ →
    s.region c.region = some r → s.txe.endTaken = false → c.crossed = false → s.ctm.counter < c.endTime →
    s.tbi.access = some a → a.kind = .window → a.target = c.target → a.timedOut = true → s.target c.target = .online →
    s.rgm.claim = some ⟨.drain, c.region, b⟩ → r.banks[b]? = some k → k.role = .published → r.retire = none →
    s.wtu.runs = [⟨c.id, c.cycle, false⟩] → s.wtu.table = [v] → v.id = c.id →
    ∃ t, exec (.accessComplete w) s = .next t ∧
      t = { s with
        txe := { s.txe with claim := none, ctx := none, seg := 0, word := 0, spent := some ⟨c.endTime, false⟩ }
        tbi := { s.tbi with access := none, states := put s.tbi.states c.target .faulted }
        wtu := { s.wtu with runs := [], table := [{ v with lastStatus := .targetTimeout, lastCycle := c.cycle }] }
        rgm := { s.rgm with
          claim := none
          regions := put s.rgm.regions c.region (some { r with banks := r.banks.set b { k with enginePin := false } }) }
        ports := t.ports } ∧
      ∀ q, t.port q = s.told (.targetState c.target .faulted .online .accessTimeout) q

/-- The end of an access of a window with words left: the walk goes on to the next word of the segment or to the first word of the
next segment, and that word's access begins. For an IN window the word read goes to its place in the FILLING bank and to no
other word of buffer memory, and the next access is a READ; for an OUT window buffer memory stays, and the next access is a
WRITE of the word that the pinned bank holds for it. Here the hold is CLEAR and the end time is not taken.
When ACCESS_COMPLETE comes is the sender's (log entry 11). -/
def Obligations.WindowAccessGoesOnToTheNextWord : Prop :=
  (∀ (s : State) (c : RunCopy) (a : Access) (k : BankClaim) (r : Region) (g n : Segment) (w : Word), s.memoryOk →
    s.txe.state = .window → s.txe.ctx = some c → c.dir = .dirIn → s.txe.claim = some k → s.region c.region = some r →
    c.segs[s.txe.seg]? = some g → c.segs[(positionAfter s.txe g).1]? = some n → s.txe.endTaken = false →
    s.tbi.hold = false → s.target c.target = .online → s.tbi.access = some a → a.kind = .window → a.timedOut = false →
    32 * (r.base + k.bank * r.size) + (g.offset + s.txe.word) < 24576 →
    ∃ t, exec (.accessComplete w) s = .next t ∧
      t = { s with rgm := { s.rgm with mem := t.rgm.mem }
                   tbi := { s.tbi with access := some (wordAccess s c n (positionAfter s.txe g).2 false 0) }
                   txe := { s.txe with seg := (positionAfter s.txe g).1, word := (positionAfter s.txe g).2 } } ∧
      ∀ x, t.rgm.mem.read x =
        if x = 32 * (r.base + k.bank * r.size) + (g.offset + s.txe.word) then wordRead a w else s.rgm.mem.read x) ∧
  ∀ (s : State) (c : RunCopy) (a : Access) (k : BankClaim) (r : Region) (g n : Segment) (w : Word), s.txe.state = .window →
    s.txe.ctx = some c → c.dir = .dirOut → s.txe.claim = some k → s.region c.region = some r →
    c.segs[s.txe.seg]? = some g → c.segs[(positionAfter s.txe g).1]? = some n → s.txe.endTaken = false →
    s.tbi.hold = false → s.target c.target = .online → s.tbi.access = some a → a.kind = .window → a.timedOut = false →
    exec (.accessComplete w) s = .next { s with
      tbi := { s.tbi with
        access := some (wordAccess s c n (positionAfter s.txe g).2 true
          (s.rgm.mem.read (32 * (r.base + k.bank * r.size) + (n.offset + (positionAfter s.txe g).2)))) }
      txe := { s.txe with seg := (positionAfter s.txe g).1, word := (positionAfter s.txe g).2 } }

/-- The end of a window's last word ends it DONE: the engine's claim and context are gone, the status and cycle go into the record, and
WINDOW_DONE tells a member owner whose window has notify YES and is ACTIVE. An IN window's bank is PUBLISHED under the region's
next generation, which WINDOW_DONE gives, and the bank PUBLISHED before is HELD or FREE by its pins. An OUT window gives its
drain claim back: the engine pin is gone, a HELD bank without a pin becomes FREE, a PUBLISHED bank stays so, and WINDOW_DONE
gives the generation that was drained. A RETIRING region that nothing holds or names any more is freed in the same step, with
REGION_FREED to every member before WINDOW_DONE. Here the window is the only run outstanding, and neither a start nor the
arbiter has work.
When ACCESS_COMPLETE comes is the sender's (log entry 11).
That the position of an engine without a window is segment 0 and word 0 is the model's choice (log entry 38). -/
def Obligations.LastWordEndsTheWindowDone : Prop :=
  (∀ (s : State) (c : RunCopy) (a : Access) (b : Nat) (k : Bank) (r : Region) (segs : List Segment) (g : Segment) (w : Word)
    (v : Window), s.txe.state = .window → s.txe.ctx = some c → c.dir = .dirIn → s.txe.claim = some ⟨b, 0⟩ →
    s.region c.region = some r → c.segs = segs ++ [g] → s.txe.seg = segs.length → g.count ≤ s.txe.word + 1 →
    s.txe.endTaken = false → s.tbi.access = some a → a.kind = .window → a.timedOut = false →
    s.rgm.claim = some ⟨.fill, c.region, b⟩ → r.banks[b]? = some k →
    32 * (r.base + b * r.size) + (g.offset + s.txe.word) < 24576 →
    s.wtu.runs = [⟨c.id, c.cycle, false⟩] → s.wtu.table = [v] → v.id = c.id →
    s.txe.pendingStart = none → s.ota.probes = [] → (∀ h, s.queue h = []) →
    ∃ (t : State) (q : Region), exec (.accessComplete w) s = .next t ∧
      q = { r with generation := generationAfter r.generation, banks := q.banks } ∧
      publishedAt r.banks q.banks b (generationAfter r.generation) ∧
      t = { s with
        txe := resetTxe, tbi := { s.tbi with access := none }
        wtu := { s.wtu with runs := [], table := [{ v with lastStatus := .done, lastCycle := c.cycle }] }
        rgm := { s.rgm with
          mem := s.rgm.mem.write (32 * (r.base + b * r.size) + (g.offset + s.txe.word)) (wordRead a w)
          claim := none
          regions := put s.rgm.regions c.region (keptOrFreed s c.region q) }
        ports := t.ports } ∧
      ∀ h, t.port h = toldAll s (freedEvent s c.region q ++
        if h = c.owner ∧ c.notify = true ∧ v.cond = .active then
          [.windowDone c.id .done c.cycle (generationAfter r.generation)]
        else []) h) ∧
  ∀ (s : State) (c : RunCopy) (a : Access) (b : Nat) (k : Bank) (r : Region) (segs : List Segment) (g : Segment) (w : Word)
    (v : Window) (gen : BitVec 32), s.txe.state = .window → s.txe.ctx = some c → c.dir = .dirOut →
    s.txe.claim = some ⟨b, gen⟩ → s.region c.region = some r → c.segs = segs ++ [g] → s.txe.seg = segs.length →
    g.count ≤ s.txe.word + 1 → s.txe.endTaken = false → s.tbi.access = some a → a.kind = .window → a.timedOut = false →
    s.rgm.claim = some ⟨.drain, c.region, b⟩ → r.banks[b]? = some k →
    s.wtu.runs = [⟨c.id, c.cycle, false⟩] → s.wtu.table = [v] → v.id = c.id →
    s.txe.pendingStart = none → s.ota.probes = [] → (∀ h, s.queue h = []) →
    let q : Region := { r with banks := r.banks.set b { k with
      enginePin := false, role := if k.role = .held ∧ k.pins = 0 then .free else k.role } }
    ∃ t, exec (.accessComplete w) s = .next t ∧
      t = { s with
        txe := resetTxe, tbi := { s.tbi with access := none }
        wtu := { s.wtu with runs := [], table := [{ v with lastStatus := .done, lastCycle := c.cycle }] }
        rgm := { s.rgm with claim := none, regions := put s.rgm.regions c.region (keptOrFreed s c.region q) }
        ports := t.ports } ∧
      ∀ h, t.port h = toldAll s (freedEvent s c.region q ++
        if h = c.owner ∧ c.notify = true ∧ v.cond = .active then [.windowDone c.id .done c.cycle gen] else []) h

/-- The end of an access of the request in progress. With words left and neither a start nor the end of open time waiting, the word
counts as done and the next word's access begins. At its last word the request ends DONE; with words left when the end of open
time was taken it ends ABORTED with the words done; after a ready timeout it ends TARGET_TIMEOUT with the words before it, and
an ONLINE target is FAULTED, TARGET_STATE to every member before REQUEST_DONE. The word of a BLOCK_READ goes to mailbox word
offset + i of the owner, and to no other word; a timed-out word goes nowhere. REQUEST_DONE gives the word read for a REG_READ
that ended DONE and the words done otherwise, and a request of a former membership posts nothing. Here neither a start nor the
arbiter has further work.
When ACCESS_COMPLETE comes is the sender's (log entry 11).
That the position of an engine without a window is segment 0 and word 0 is the model's choice (log entry 38). -/
def Obligations.RequestAccessEndsAWordOrTheRequest : Prop :=
  (∀ (s : State) (r : RunningReq) (a : Access) (w : Word), s.memoryOk → requestRuns s r a →
    a.timedOut = false → s.txe.stopping = false → s.txe.pendingStart = none → r.done + 1 < r.req.count →
    r.req.kind ≠ .regRead → (r.req.kind = .blockRead → r.req.offset + r.done < 256) → s.target r.req.target = .online →
    s.tbi.hold = false →
    ∃ t, exec (.accessComplete w) s = .next t ∧
      t = { s with
        tbi := { s.tbi with access := t.tbi.access }
        ota := { s.ota with running := some { r with done := r.done + 1 }, mailboxes := t.ota.mailboxes } } ∧
      mailboxAfter s t r a w ∧
      t.tbi.access = some
        { target := r.req.target
          reg := if r.req.kind.block = true ∧ r.req.mode = .step then r.req.reg + (r.done + 1) else r.req.reg
          write := r.req.kind == .regWrite || r.req.kind == .blockWrite, kind := .request
          data := match r.req.kind with
            | .regWrite => r.req.value
            | .blockWrite => (pick s.ota.mailboxes r.owner).read (r.req.offset + (r.done + 1))
            | .regRead | .blockRead => 0
          profile := s.profile r.req.target
          burst := r.req.kind.block && r.req.mode == .fixed && (s.profile r.req.target).burst
          phase := if r.req.kind.block && r.req.mode == .fixed && (s.profile r.req.target).burst then .strobe else .setup
          elapsed := 0, timedOut := false }) ∧
  (∀ (s : State) (r : RunningReq) (a : Access) (w : Word), s.memoryOk → requestRuns s r a →
    a.timedOut = false → s.txe.pendingStart = none → (r.req.kind = .blockRead → r.req.offset + r.done < 256) →
    s.ota.probes = [] →
    (∀ h, s.queue h = []) → r.req.count ≤ r.done + 1 ∨ s.txe.stopping = true →
    let st : ReqStatus := if r.req.count ≤ r.done + 1 then .done else .aborted
    let value : Word :=
      if r.req.kind = .regRead ∧ st = .done then wordRead a w else BitVec.ofNat 16 (r.done + 1)
    ∃ t, exec (.accessComplete w) s = .next t ∧
      t = { s with
        txe := resetTxe, tbi := { s.tbi with access := none }
        ota := { s.ota with running := none, mailboxes := t.ota.mailboxes }, ports := t.ports } ∧
      mailboxAfter s t r a w ∧
      ∀ q, t.port q =
        if q = r.owner ∧ r.former = false then s.told (.requestDone r.req.tag st r.req.kind r.req.target value) q
        else s.port q) ∧
  ∀ (s : State) (r : RunningReq) (a : Access) (w : Word), requestRuns s r a → a.timedOut = true →
    s.txe.pendingStart = none → s.ota.probes = [] → (∀ h, s.queue h = []) → s.target r.req.target = .online →
    ∃ t, exec (.accessComplete w) s = .next t ∧
      t = { s with
        txe := resetTxe
        tbi := { s.tbi with access := none, states := put s.tbi.states r.req.target .faulted }
        ota := { s.ota with running := none }, ports := t.ports } ∧
      ∀ q, t.port q = toldAll s
        (.targetState r.req.target .faulted .online .accessTimeout ::
          if q = r.owner ∧ r.former = false then
            [.requestDone r.req.tag .targetTimeout r.req.kind r.req.target (BitVec.ofNat 16 r.done)]
          else []) q

/-- The end of a probe's access decides a PROBING target: ONLINE after a normal end, FAULTED after a timeout, and every member is
told. Here neither a start nor the arbiter has further work.
When ACCESS_COMPLETE comes is the sender's (log entry 11).
That the position of an engine without a window is segment 0 and word 0 is the model's choice (log entry 38). -/
def Obligations.ProbeOutcomeDecidesTheTarget : Prop :=
  ∀ (s : State) (x : TargetId) (a : Access) (w : Word), s.txe.state = .openRun → s.ota.running = none →
    s.ota.probing = some x → s.target x = .probing → s.tbi.access = some a → a.kind = .probe → a.target = x →
    s.txe.pendingStart = none → s.ota.probes = [] → (∀ h, s.queue h = []) →
    ∃ t, exec (.accessComplete w) s = .next t ∧
      t = { s with
        txe := resetTxe, ota := { s.ota with probing := none }
        tbi := { s.tbi with
          access := none, states := put s.tbi.states x (if a.timedOut then .faulted else .online) }
        ports := t.ports } ∧
      ∀ q, t.port q =
        s.told (if a.timedOut then .targetState x .faulted .probing .probeTimeout
                else .targetState x .online .probing .probeOk) q

/-! ## Reports between the units -/

/-- Agreed contents that reach their unit while CYCLING wait there: CTM's pending slot becomes FULL, or TBI's pending settings do, the
record's handed field becomes YES, and what is in force stays.
Agreed contents that reach their unit while not CYCLING are taken at once, and AGU is told: STOP leaves CTM STOPPED under the
new parameters, RUN with FREE starts cycle 0 at once, here with no hand-over by OTA, and WTU announces the start at counter 0 in the
same step, which is all where no ACTIVE window that starts at 0 is selected for cycle 0, and RUN with FOLLOW leaves CTM
ACQUIRING; a DISABLED target with enable YES takes the profile and becomes PROBING with a probe queued, and every member
is told, also where TBI's reaction to the boundary that ended CYCLING is still outstanding, which is the model's choice (log
entry 43). Here the engine is not IDLE, so that the probe waits. That the start of cycle 0 waits for the end of an outstanding
reaction of WTU to an earlier boundary is the model's reading (log entry 40). That a cycle-mark line which an earlier boundary
asserted, and which is still asserted, stays so where parameters are taken at rest, the start of cycle 0 included, is the
model's choice (log entry 33). -/
def Obligations.AgreedContentsReachTheirUnit : Prop :=
  (∀ (s : State) (r : Proposal) (n : CycleParams), s.agu.handoverDue = true → s.agu.proposal = some r →
    r.contents = .cycle n → s.ctm.timebase = .cycling →
    exec .cycleContentsHandover s = .next { s with
      ctm := { s.ctm with slot := some n }
      agu := { s.agu with handoverDue := false, proposal := some { r with handed := true } } }) ∧
  (∀ (s : State) (r : Proposal) (n : TargetSettings), s.agu.handoverDue = true → s.agu.proposal = some r →
    r.contents = .target n → s.ctm.timebase = .cycling →
    exec .targetContentsHandover s = .next { s with
      tbi := { s.tbi with pendingSettings := some n }
      agu := { s.agu with handoverDue := false, proposal := some { r with handed := true } } }) ∧
  (∀ (s : State) (r : Proposal) (n : CycleParams), s.agu.handoverDue = true → s.agu.proposal = some r →
    r.contents = .cycle n → s.ctm.timebase ≠ .cycling → n.run = .stop →
    exec .cycleContentsHandover s = .next { s with
      ctm := { s.ctm with
        params := n, timebase := .stopped, counter := 0, sync := .unsynced, missed := 0, tickPos := 0 }
      agu := { s.agu with handoverDue := false, appliedDue := true } }) ∧
  (∀ (s : State) (r : Proposal) (n : CycleParams), s.agu.handoverDue = true → s.agu.proposal = some r →
    r.contents = .cycle n → s.ctm.timebase ≠ .cycling → n.run = .run → n.mode = .free →
    s.txe.state ≠ .idle ∨ (s.ota.probes = [] ∧ ∀ h, s.queue h = []) →
    let t : State := { s with
      ctm := { s.ctm with
        params := n, timebase := .cycling, counter := 0, cycle := 0, sync := .unsynced, missed := 0, early := false
        tickPos := 0 }
      wtu := { s.wtu with announceDue := true }
      agu := { s.agu with handoverDue := false, appliedDue := true } }
    exec .cycleContentsHandover s = exec .windowStartAnnounce t ∧
      (s.wtu.boundaryDue = true ∨ (∀ w ∈ s.wtu.table, w.start = 0 → w.cond = .active → 0 % w.divisor ≠ w.phase) →
        exec .cycleContentsHandover s = .next t)) ∧
  (∀ (s : State) (r : Proposal) (n : CycleParams), s.agu.handoverDue = true → s.agu.proposal = some r →
    r.contents = .cycle n → s.ctm.timebase ≠ .cycling → n.run = .run → n.mode = .follow →
    exec .cycleContentsHandover s = .next { s with
      ctm := { s.ctm with
        params := n, timebase := .acquiring, counter := 0, sync := .unsynced, missed := 0, tickPos := 0 }
      agu := { s.agu with handoverDue := false, appliedDue := true } }) ∧
  ∀ (s : State) (r : Proposal) (n : TargetSettings), s.agu.handoverDue = true → s.agu.proposal = some r →
    r.contents = .target n → s.ctm.timebase ≠ .cycling → n.enable = true → s.target n.target = .disabled →
    s.txe.state ≠ .idle → s.ota.probes = [] → s.ota.probing ≠ some n.target →
    ∃ t, exec .targetContentsHandover s = .next t ∧
      t = { s with
        tbi := { s.tbi with
          profiles := put s.tbi.profiles n.target n.profile, states := put s.tbi.states n.target .probing }
        ota := { s.ota with probes := [n.target] }
        agu := { s.agu with handoverDue := false, appliedDue := true }
        ports := t.ports } ∧
      ∀ q, t.port q = s.told (.targetState n.target .probing .disabled .enable) q

/-- The owning unit's report that it has taken the contents ends the record with outcome APPLIED at every member.
AGU's report that a CYCLE proposal ended sets the proposed-E limit to NONE. That without one on its way the row does nothing is
the model's choice (log entry 10). -/
def Obligations.ApplicationAndLimitReports : Prop :=
  (∀ (s : State) (r : Proposal), s.agu.appliedDue = true → s.agu.proposal = some r →
    ∃ t, exec .proposalApplied s = .next t ∧ proposalEnds r .applied 0 s t ∧
      t = { s with
        wtu := t.wtu, ports := t.ports
        agu := { s.agu with proposal := none, lastOutcome := some (r.id, .applied), appliedDue := false } }) ∧
  (∀ s : State, s.wtu.limitClearDue = true →
    exec .wtuLimitClear s = .next { s with wtu := { s.wtu with limit := none, limitClearDue := false } }) ∧
  ∀ s : State, s.wtu.limitClearDue = false → exec .wtuLimitClear s = .next s

/-- CTM and the port take the report of a departure: CTM releases the host's cycle-mark line; the port empties its event queue and
clears its marker. Nothing else changes, and the departure goes on while another unit has not confirmed.
OTA takes the report of a departure: the host's queue is discarded without an event and its request in progress is marked as of a
former membership. Here the engine is not IDLE. -/
def Obligations.CtmPortAndOtaTakeADeparture : Prop :=
  (∀ (s : State) (h : HostId) (d : Departure), s.departure h = some d → .ctm ∈ d.awaiting → (∃ x ∈ d.awaiting, x ≠ .ctm) →
    ∃ t, exec (.ctmDeparture h) s = .next t ∧ t = { s with agu := stillAwaiting d .ctm s h, ports := t.ports } ∧
      otherPorts h s t ∧ t.port h = { s.port h with cmark := false }) ∧
  (∀ (s : State) (h : HostId) (d : Departure), s.departure h = some d → .port ∈ d.awaiting → (∃ x ∈ d.awaiting, x ≠ .port) →
    ∃ t, exec (.portDeparture h) s = .next t ∧ t = { s with agu := stillAwaiting d .port s h, ports := t.ports } ∧
      otherPorts h s t ∧ t.port h = { s.port h with events := [], overflow := false }) ∧
  ∀ (s : State) (h : HostId) (d : Departure), s.departure h = some d → .ota ∈ d.awaiting → (∃ x ∈ d.awaiting, x ≠ .ota) →
    s.txe.state ≠ .idle →
    exec (.otaDeparture h) s = .next { s with
      agu := stillAwaiting d .ota s h
      ota := { s.ota with
        queues := put s.ota.queues h []
        running := s.ota.running.map fun r => if r.owner = h then { r with former := true } else r } }

/-- WTU takes the report of a departure: the host's staged edits go, and its windows stay as ORPHANED while CYCLING and are removed at
once otherwise. Here no region is RETIRING. -/
def Obligations.WtuDepartureOrphansTheWindows : Prop :=
  (∀ (s : State) (h : HostId) (d : Departure), s.departure h = some d → .wtu ∈ d.awaiting → (∃ x ∈ d.awaiting, x ≠ .wtu) →
    s.ctm.timebase = .cycling → noRetiring s →
    exec (.wtuDeparture h) s = .next { s with
      agu := stillAwaiting d .wtu s h
      wtu := { s.wtu with
        edits := s.wtu.edits.filter (fun e => e.issuer != h)
        table := s.wtu.table.map fun w => if w.owner = h then { w with cond := .orphaned } else w } }) ∧
  ∀ (s : State) (h : HostId) (d : Departure), s.departure h = some d → .wtu ∈ d.awaiting → (∃ x ∈ d.awaiting, x ≠ .wtu) →
    s.ctm.timebase ≠ .cycling → noRetiring s →
    ∃ t, exec (.wtuDeparture h) s = .next t ∧ t = { s with agu := stillAwaiting d .wtu s h, wtu := t.wtu } ∧
      t.wtu.table = s.wtu.table.filter (fun w => w.owner != h && w.cond == .active) ∧
      t.wtu.edits = s.wtu.edits.filter (fun e => e.issuer != h) ∧ t.wtu.limit = s.wtu.limit

/-- RGM takes the report of a departure. Every handle of the host is closed and its aperture unbound: a read handle's pin is taken
from its bank, which becomes FREE if it was HELD and keeps no pin; the write handle's FILLING bank becomes FREE. Every region
the host owned becomes RETIRING with cause OWNER_LEFT, and is freed at once if nothing holds or names it; every region freed
posts REGION_FREED to every member, in ascending order of id (log entry 36). Other hosts' handles, apertures and regions, the
words of buffer memory, the engine claim, the member set and every other unit's state stay. -/
def Obligations.RgmDepartureClosesAndRetires : Prop :=
  ∀ (s : State) (h : HostId) (d : Departure), s.departure h = some d → .rgm ∈ d.awaiting → (∃ x ∈ d.awaiting, x ≠ .rgm) →
    ∃ t, exec (.rgmDeparture h) s = .next t ∧
      t = { s with agu := stillAwaiting d .rgm s h, rgm := t.rgm, ports := t.ports } ∧ t.rgm.mem = s.rgm.mem ∧
      t.rgm.claim = s.rgm.claim ∧ (∀ a, t.readHandle h a = none) ∧ t.writeHandle h = none ∧
      (∀ q, q ≠ h → (∀ a, t.readHandle q a = s.readHandle q a) ∧ t.writeHandle q = s.writeHandle q) ∧
      (∀ i r, s.region i = some r → r.owner ≠ h → (∀ a, ∀ x ∈ s.readHandle h a, x.region ≠ i) →
        (∀ x ∈ s.writeHandle h, x.region ≠ i) → t.region i = some r) ∧
      (∀ a x r k, s.readHandle h a = some x → s.region x.region = some r → r.owner ≠ h → r.retire = none →
        r.banks[x.bank]? = some k → (∀ c, c ≠ a → ∀ y ∈ s.readHandle h c, y.region ≠ x.region) →
        (∀ y ∈ s.writeHandle h, y.region ≠ x.region) →
        t.region x.region = some { r with banks := r.banks.set x.bank { k with
          pins := HostSet.minus k.pins h
          role := if k.role = .held ∧ HostSet.minus k.pins h = 0 ∧ k.enginePin = false then .free else k.role } }) ∧
      (∀ i r, s.region i = some r → r.owner = h → (∀ a, ∀ x ∈ s.readHandle h a, x.region ≠ i) →
        (∀ x ∈ s.writeHandle h, x.region ≠ i) → t.region i = retiredOrFreed s i r) ∧
      (∀ x r k, s.writeHandle h = some x → s.region x.region = some r → r.owner = h → r.banks[x.bank]? = some k →
        (∀ a, ∀ y ∈ s.readHandle h a, y.region ≠ x.region) →
        t.region x.region = retiredOrFreed s x.region { r with banks := r.banks.set x.bank { k with role := .free } }) ∧
      (∀ i r, t.region i = some r → r.owner = h → r.retire = some .ownerLeft) ∧
      (∀ q, t.port q = { toldAll s (freedEvents h s t) q with
        readBind := (t.port q).readBind, writeBind := (t.port q).writeBind }) ∧
      (∀ q, q ≠ h → (t.port q).readBind = (s.port q).readBind ∧ (t.port q).writeBind = (s.port q).writeBind) ∧
      (∀ a, pick (t.port h).readBind a = if (s.readHandle h a).isSome then none else pick (s.port h).readBind a) ∧
      (t.port h).writeBind = if (s.writeHandle h).isSome then none else (s.port h).writeBind

/-- The last confirmation completes a departure: the host leaves the departing set, and its LEAVE is answered OK with the member set.
A departure by port reset takes a JOIN held meanwhile instead: the host is a member again and every member is told.
The set in LEAVE's result is the one that stands when the answer is given (log entry 19). -/
def Obligations.LastConfirmationCompletesTheDeparture : Prop :=
  (∀ (s : State) (h : HostId) (c : Captured), s.departure h = some ⟨.leave, [.port]⟩ → (s.port h).state = .busy →
    (s.port h).discard = false → (s.port h).captured = some c →
    ∃ t, exec (.portDeparture h) s = .next t ∧
      t = { s with agu := { s.agu with departing := put s.agu.departing h none }, ports := t.ports } ∧ otherPorts h s t ∧
      t.port h = { s.port h with
        events := [], overflow := false, state := .done, lastStatus := 0, captured := none
        results := resultWords [BitVec.ofNat 16 s.agu.members.toNat] }) ∧
  ∀ (s : State) (h : HostId) (c : Captured), s.departure h = some ⟨.portReset, [.port]⟩ → (s.port h).state = .busy →
    (s.port h).discard = false → (s.port h).captured = some c → c.code = 0x01 →
    ∃ t, exec (.portDeparture h) s = .next t ∧
      t = { s with
        agu := { s.agu with members := HostSet.plus s.agu.members h, departing := put s.agu.departing h none }
        ports := t.ports } ∧
      (∀ q, q ≠ h → t.port q = s.told (.joined h (HostSet.plus s.agu.members h)) q) ∧
      t.port h = { s.port h with
        events := [.joined h (HostSet.plus s.agu.members h)], overflow := false, state := .done, lastStatus := 0
        captured := none, results := resultWords [BitVec.ofNat 16 (HostSet.plus s.agu.members h).toNat] }

/-! ## Members and proposals -/

/-- JOIN of a host that is neither a member nor departing: the host is a member, every member and the host itself is told, and the
command returns the member set. A member is refused ALREADY_MEMBER; the JOIN of a departing host is held with the port BUSY.
Answers stand in the step that takes the command (log entry 7). -/
def Obligations.JoinAdmitsTheHost : Prop :=
  (∀ (s : State) (p : HostId), s.ready p → s.isMember p = false → s.departure p = none →
    let m := HostSet.plus s.agu.members p
    ∃ t, exec (.join p) s = .next t ∧ t = { s with agu := { s.agu with members := m }, ports := t.ports } ∧
      (∀ q, q ≠ p → t.port q = s.told (.joined p m) q) ∧
      t.port p = ((s.port p).take (.joined p m)).doneWith .join .ok [BitVec.ofNat 16 m.toNat]) ∧
  (∀ (s : State) (p : HostId), s.ready p → s.isMember p = true →
    ∃ t, exec (.join p) s = .next t ∧ onlyAnswers p .join .alreadyMember [] s t) ∧
  ∀ (s : State) (p : HostId) (d : Departure), s.ready p → s.isMember p = false → s.departure p = some d →
    ∃ t, exec (.join p) s = .next t ∧ t = { s with ports := t.ports } ∧ otherPorts p s t ∧
      t.port p = (s.port p).issue 0x01

/-- LEAVE of a member: the host leaves the member set and is departing until five units have taken the report, the remaining members
are told, and the port stays BUSY. Here no proposal exists. A host that is not a member is refused NOT_MEMBER. -/
def Obligations.LeaveIsADeparture : Prop :=
  (∀ (s : State) (p : HostId), s.ready p → s.isMember p = true → s.agu.proposal = none →
    let m := HostSet.minus s.agu.members p
    ∃ t, exec (.leave p) s = .next t ∧
      t = { s with
        agu := { s.agu with
          members := m, departing := put s.agu.departing p (some ⟨.leave, [.ctm, .wtu, .rgm, .ota, .port]⟩) }
        ports := t.ports } ∧
      (∀ q, q ≠ p → t.port q = s.told (.left p .leave m) q) ∧ t.port p = (s.port p).issue 0x02) ∧
  ∀ (s : State) (p : HostId), s.ready p → s.isMember p = false →
    ∃ t, exec (.leave p) s = .next t ∧ onlyAnswers p .leave .notMember [] s t

/-- A departure and the proposal record: the proposer's departure ends a PENDING proposal WITHDRAWN with cause PROPOSER_LEFT; the
departure of the last voter that had not voted makes it AGREED; the outcome follows the departure's own event. -/
def Obligations.DepartureActsOnTheProposal : Prop :=
  (∀ (s : State) (p q : HostId) (r : Proposal), s.ready p → s.isMember p = true → s.agu.proposal = some r →
    r.state = .waiting → r.proposer = p → q ≠ p → s.isMember q = true →
    ∃ t, exec (.leave p) s = .next t ∧ t.agu.proposal = none ∧ t.agu.lastOutcome = some (r.id, .withdrawn) ∧
      t.port q = ((s.port q).take (.left p .leave (HostSet.minus s.agu.members p))).take
        (.proposalOutcome r.id .withdrawn r.contents.kind 1)) ∧
  ∀ (s : State) (p q : HostId) (r : Proposal), s.ready p → s.isMember p = true → s.agu.proposal = some r →
    r.state = .waiting → r.proposer ≠ p → HostSet.minus r.accepted p = HostSet.minus r.required p → q ≠ p →
    s.isMember q = true →
    ∃ t, exec (.leave p) s = .next t ∧
      t.agu.proposal = some { r with
        state := .agreed, required := HostSet.minus r.required p, accepted := HostSet.minus r.accepted p } ∧
      t.agu.handoverDue = true ∧
      t.port q = ((s.port q).take (.left p .leave (HostSet.minus s.agu.members p))).take
        (.proposalOutcome r.id .agreed r.contents.kind (if s.ctm.timebase = .cycling then 0 else 1))

/-- QUERY_MEMBERS is always answered, changes nothing but the issuing port, and returns the member set, the departing set and
whether the issuer is a member. A host whose JOIN is held has a BUSY port, and QUERY_MEMBERS at a BUSY port is not taken. -/
def Obligations.QueryMembersReturnsTheSets : Prop :=
  (∀ (s : State) (p : HostId), s.ready p → ∃ t w, exec (.queryMembers p) s = .next t ∧
    onlyAnswers p .queryMembers .ok [w] s t ∧
    (∀ h : HostId, w.getLsbD h.val = s.isMember h) ∧ (∀ h : HostId, w.getLsbD (4 + h.val) = (s.departure h).isSome) ∧
    w.getLsbD 8 = s.isMember p) ∧
  (∀ (s : State) (p : HostId), s.ready p → s.isMember p = false → (s.departure p).isSome = true →
    ∃ t, exec (.join p) s = .next t ∧ (t.port p).state = .busy) ∧
  ∀ (s : State) (p : HostId), s.resetLow = false → (s.port p).resetLow = false → (s.port p).state = .busy →
    ∃ t, exec (.queryMembers p) s = .next t ∧ t = { s with ports := t.ports } ∧ otherPorts p s t ∧
      t.port p = { s.port p with issueBusy := true }

/-- The other queries change nothing but the issuing port and return the state as it stands, every result word of section 9.3:
QUERY_TIMEBASE, QUERY_PROPOSAL and QUERY_QUEUE always, QUERY_REGION of a region that exists, QUERY_TARGET of any target.
QUERY_WINDOW, of a window of the active table or of the record a staged ADD or CHANGE carries, also writes the segments into
the segment area, from S0 onward.
That QUERY_PROPOSAL's id of the last outcome reads 0 while it is NONE is the model's choice (log entry 35), and of QUERY_QUEUE's
that a host that has ceased to be a member is shown what OTA still holds for it until OTA takes its departure (log entry 41)
and that the words of an absent head and of an absent tag in progress read 0 (log entry 42). -/
def Obligations.QueriesReturnTheState : Prop :=
  (∀ (s : State) (p : HostId), s.ready p → ∃ t, exec (.queryTimebase p) s = .next t ∧
    onlyAnswers p .queryTimebase .ok
      [BitVec.ofNat 16 (s.ctm.timebase.code + 4 * s.ctm.params.mode.code + 8 * s.ctm.params.run.code +
        16 * bit s.ctm.slot.isSome + 256 * s.ctm.sync.code),
       BitVec.ofNat 16 s.ctm.params.length, BitVec.ofNat 16 s.ctm.params.prescale, BitVec.ofNat 16 s.ctm.params.window,
       BitVec.ofNat 16 s.ctm.counter, s.ctm.cycle.extractLsb' 16 16, s.ctm.cycle.extractLsb' 0 16,
       BitVec.ofNat 16 s.ctm.missed] s t) ∧
  (∀ (s : State) (p : HostId), s.ready p → ∃ t, exec (.queryProposal p) s = .next t ∧
    onlyAnswers p .queryProposal .ok (proposalWords s p) s t) ∧
  (∀ (s : State) (p : HostId), s.ready p → ∃ t, exec (.queryQueue p) s = .next t ∧
    onlyAnswers p .queryQueue .ok (queueWords s p) s t) ∧
  (∀ (s : State) (p : HostId) (i : RegionId) (r : Region), s.ready p → s.param p 0 = BitVec.ofNat 16 i.val →
    s.region i = some r → ∃ t, exec (.queryRegion p) s = .next t ∧
    onlyAnswers p .queryRegion .ok
      [BitVec.ofNat 16 (r.kind.code + 4 * (r.banks.length % 4) + 16 * bit r.retire.isSome +
        32 * (match r.retire with | none => 0 | some .deleted => 1 | some .ownerLeft => 2) + 256 * r.owner.val +
        4096 * r.readers.toNat),
       BitVec.ofNat 16 r.size, BitVec.ofNat 16 r.base, r.generation.extractLsb' 16 16, r.generation.extractLsb' 0 16,
       bankWord r 0, bankWord r 1, bankWord r 2] s t) ∧
  (∀ (s : State) (p : HostId) (x : TargetId), s.ready p → s.param p 0 = BitVec.ofNat 16 x.val →
    ∃ t, exec (.queryTarget p) s = .next t ∧ onlyAnswers p .queryTarget .ok
      (BitVec.ofNat 16 ((s.target x).code + 16 * bit (s.tbi.pendingSettings.any fun n => n.target == x)) ::
        targetWords x (s.target x != .disabled) (s.profile x) ++
        match s.tbi.pendingSettings with
        | some n => if n.target = x then targetWords x n.enable n.profile else [0, 0, 0]
        | none => [0, 0, 0]) s t) ∧
  ∀ (s : State) (p : HostId) (w : Window) (staged : Bool), s.ready p → w.id ≤ 63 → s.param p 0 = BitVec.ofNat 16 w.id →
    s.param p 1 = BitVec.ofNat 16 (bit staged) → viewed s.wtu staged w →
    ∃ t, exec (.queryWindow p) s = .next t ∧ t = { s with ports := t.ports } ∧ otherPorts p s t ∧
      t.port p = { (s.port p).doneWith .queryWindow .ok
          [BitVec.ofNat 16 (w.owner.val + 4 * w.cond.code +
            16 * (match s.wtu.edits.find? (fun e => e.id == w.id) with | some e => e.op.code | none => 0) +
            64 * bit (s.wtu.runs.any fun r => r.id == w.id && !r.removed) + 128 * bit w.notify + 256 * w.dir.code +
            4096 * w.target.val),
           BitVec.ofNat 16 w.start, BitVec.ofNat 16 w.dur, BitVec.ofNat 16 (w.region.val + 16 * (w.segs.length % 16)),
           BitVec.ofNat 16 (w.divisor % 256 + 256 * (w.phase % 16)), BitVec.ofNat 16 w.lastStatus.code, w.lastCycle] with
        segArea := putSegments (s.port p).segArea w.segs }

/-- PROPOSE_CYCLE with fields in range, for RUN every window of the prospective table ending by the proposed E, for STOP a proposed E
not below E, and other members to vote: the record is PENDING, the proposed-E limit is the proposed E, each voter is told, and the command returns the id. A
window that ends later gets WINDOWS_OUTSIDE, a record that exists PROPOSAL_PENDING, and nothing changes.
A report of an earlier proposal's end still on its way has reached WTU before the question (log entry 22). -/
def Obligations.ProposeCycleOpensAVote : Prop :=
  (∀ (s : State) (p : HostId) (n : CycleParams) (expiry : Nat), s.ready p → s.isMember p = true → s.agu.proposal = none →
    n.inRange = true → 1 ≤ expiry → expiry ≤ 255 → s.param p 0 = BitVec.ofNat 16 n.run.code →
    s.param p 1 = BitVec.ofNat 16 n.mode.code → s.param p 2 = BitVec.ofNat 16 n.length →
    s.param p 3 = BitVec.ofNat 16 n.prescale → s.param p 4 = BitVec.ofNat 16 n.window →
    s.param p 5 = BitVec.ofNat 16 expiry → (n.run = .run → ∀ w ∈ s.wtu.prospective, w.start + w.dur ≤ usableEnd n) →
    (n.run = .stop → usableEnd s.ctm.params ≤ usableEnd n) → HostSet.minus s.agu.members p ≠ 0 →
    ∃ t, exec (.proposeCycle p) s = .next t ∧
      t = { s with
        agu := proposed s p (.cycle n) expiry, ports := t.ports
        wtu := { s.wtu with limit := some (usableEnd n), limitClearDue := false } } ∧
      votersTold s t p .proposeCycle (.cycle n) expiry) ∧
  (∀ (s : State) (p : HostId) (n : CycleParams) (w : Window), s.ready p → s.isMember p = true → s.agu.proposal = none →
    n.run = .run → n.inRange = true → s.param p 0 = 1 → s.param p 1 = BitVec.ofNat 16 n.mode.code →
    s.param p 2 = BitVec.ofNat 16 n.length → s.param p 3 = BitVec.ofNat 16 n.prescale →
    s.param p 4 = BitVec.ofNat 16 n.window → s.param p 5 = 1 → w ∈ s.wtu.prospective → usableEnd n < w.start + w.dur →
    ∃ t, exec (.proposeCycle p) s = .next t ∧ onlyAnswers p .proposeCycle .windowsOutside [] s t) ∧
  ∀ (s : State) (p : HostId) (r : Proposal), s.ready p → s.isMember p = true → s.agu.proposal = some r →
    ∃ t, exec (.proposeCycle p) s = .next t ∧ onlyAnswers p .proposeCycle .proposalPending [] s t

/-- PROPOSE_TARGET with fields in range and other members to vote: the record is PENDING, each voter is told, the command returns the
id, and the proposed-E limit is not touched. With no other member it is AGREED at once, and the outcome is posted. -/
def Obligations.ProposeTargetOpensAVote : Prop :=
  (∀ (s : State) (p : HostId) (n : TargetSettings) (expiry : Nat), s.ready p → s.isMember p = true → s.agu.proposal = none →
    n.profile.inRange = true → 1 ≤ expiry → expiry ≤ 255 →
    s.param p 0 = BitVec.ofNat 16
      (n.target.val + 16 * bit n.enable + 32 * bit n.profile.handshake + 64 * bit n.profile.burst) →
    s.param p 1 = BitVec.ofNat 16 n.profile.setup → s.param p 2 = BitVec.ofNat 16 n.profile.strobe →
    s.param p 3 = BitVec.ofNat 16 n.profile.recovery → s.param p 4 = BitVec.ofNat 16 n.profile.timeout →
    s.param p 5 = BitVec.ofNat 16 expiry → HostSet.minus s.agu.members p ≠ 0 →
    ∃ t, exec (.proposeTarget p) s = .next t ∧
      t = { s with agu := proposed s p (.target n) expiry, ports := t.ports } ∧
      votersTold s t p .proposeTarget (.target n) expiry) ∧
  ∀ (s : State) (p : HostId) (n : TargetSettings) (expiry : Nat), s.ready p → s.isMember p = true → s.agu.proposal = none →
    n.profile.inRange = true → 1 ≤ expiry → expiry ≤ 255 →
    s.param p 0 = BitVec.ofNat 16
      (n.target.val + 16 * bit n.enable + 32 * bit n.profile.handshake + 64 * bit n.profile.burst) →
    s.param p 1 = BitVec.ofNat 16 n.profile.setup → s.param p 2 = BitVec.ofNat 16 n.profile.strobe →
    s.param p 3 = BitVec.ofNat 16 n.profile.recovery → s.param p 4 = BitVec.ofNat 16 n.profile.timeout →
    s.param p 5 = BitVec.ofNat 16 expiry → HostSet.minus s.agu.members p = 0 →
    ∃ t, exec (.proposeTarget p) s = .next t ∧ otherPorts p s t ∧
      t = { s with
        agu := { proposed s p (.target n) expiry with
          proposal := some { newProposal s p (.target n) expiry with state := .agreed }, handoverDue := true }
        ports := t.ports } ∧
      t.port p = ((s.port p).take (.proposalOutcome s.agu.nextId .agreed .target
        (if s.ctm.timebase = .cycling then 0 else 1))).doneWith .proposeTarget .ok [BitVec.ofNat 16 s.agu.nextId]

/-- VOTE on a PENDING proposal by a required voter that has not voted: REJECT ends it REJECTED with the voter as detail; the
completing ACCEPT makes it AGREED; any other ACCEPT leaves it PENDING with the voter in the accepted set.
The result words 0, 1 and 2 for PENDING, AGREED and REJECTED are the model's choice (log entry 14). -/
def Obligations.VoteDecidesOrCounts : Prop :=
  ∀ (s : State) (p : HostId) (r : Proposal), s.ready p → s.isMember p = true → s.agu.proposal = some r → r.id ≤ 65535 →
    s.param p 0 = BitVec.ofNat 16 r.id → r.state = .waiting → HostSet.has r.required p = true →
    HostSet.has r.accepted p = false →
    (s.param p 1 = 1 → ∃ t, exec (.vote p) s = .next t ∧
      t = { s with
        agu := { s.agu with proposal := none, lastOutcome := some (r.id, .rejected) }
        wtu := if r.contents.kind = .cycle then { s.wtu with limitClearDue := true } else s.wtu
        ports := t.ports } ∧
      (∀ q, q ≠ p → t.port q = s.told (.proposalOutcome r.id .rejected r.contents.kind p.val) q) ∧
      t.port p = ((s.port p).take (.proposalOutcome r.id .rejected r.contents.kind p.val)).doneWith .vote .ok [2]) ∧
    (s.param p 1 = 0 → HostSet.plus r.accepted p = r.required → ∃ t, exec (.vote p) s = .next t ∧
      t = { s with
        agu := { s.agu with
          proposal := some { r with accepted := r.required, state := .agreed }, handoverDue := true }
        ports := t.ports } ∧
      let e : Event := .proposalOutcome r.id .agreed r.contents.kind (if s.ctm.timebase = .cycling then 0 else 1)
      (∀ q, q ≠ p → t.port q = s.told e q) ∧ t.port p = ((s.port p).take e).doneWith .vote .ok [1]) ∧
    (s.param p 1 = 0 → HostSet.plus r.accepted p ≠ r.required → ∃ t, exec (.vote p) s = .next t ∧
      t = { s with
        agu := { s.agu with proposal := some { r with accepted := HostSet.plus r.accepted p } }, ports := t.ports } ∧
      otherPorts p s t ∧ t.port p = (s.port p).doneWith .vote .ok [0])

/-- WITHDRAW_PROPOSAL: its checks in their order, each with its refusal and no other effect, and the withdrawal by the proposer.
R56 lists no results; that Q0 to Q7 are zero after it is the model's reading (log entry 20). -/
def Obligations.WithdrawProposalChecksAndEffect : Prop :=
  (∀ (s : State) (p : HostId), s.ready p → s.isMember p = false →
    ∃ t, exec (.withdrawProposal p) s = .next t ∧ onlyAnswers p .withdrawProposal .notMember [] s t) ∧
  (∀ (s : State) (p : HostId), s.ready p → s.isMember p = true →
    (∀ r ∈ s.agu.proposal, r.state = .agreed ∨ r.id ≠ (s.param p 0).toNat) →
    ∃ t, exec (.withdrawProposal p) s = .next t ∧ onlyAnswers p .withdrawProposal .noProposal [] s t) ∧
  (∀ (s : State) (p : HostId) (r : Proposal), s.ready p → s.isMember p = true → s.agu.proposal = some r →
    r.state = .waiting → r.id = (s.param p 0).toNat → r.proposer ≠ p →
    ∃ t, exec (.withdrawProposal p) s = .next t ∧ onlyAnswers p .withdrawProposal .notProposer [] s t) ∧
  ∀ (s : State) (p : HostId) (r : Proposal), s.ready p → s.isMember p = true → s.agu.proposal = some r →
    r.state = .waiting → r.id = (s.param p 0).toNat → r.proposer = p →
    ∃ t, exec (.withdrawProposal p) s = .next t ∧
      t = { s with
        agu := { s.agu with proposal := none, lastOutcome := some (r.id, .withdrawn) }
        wtu := if r.contents.kind = .cycle then { s.wtu with limitClearDue := true } else s.wtu
        ports := t.ports } ∧
      (∀ q, q ≠ p → t.port q = s.told (.proposalOutcome r.id .withdrawn r.contents.kind 0) q) ∧
      t.port p = ((s.port p).take (.proposalOutcome r.id .withdrawn r.contents.kind 0)).doneWith .withdrawProposal .ok []

/-! ## The window table -/

/-- While CYCLING an accepted STAGE_ADD, STAGE_CHANGE or STAGE_REMOVE goes to the end of the staged edit list and the active table
stays. Disposition STAGED is 0. WITHDRAW_EDIT takes a staged ADD back, and a staged CHANGE or REMOVE if the active record still
fits: with S + D beyond E or the proposed-E limit it is refused OUTSIDE_CYCLE, with another window of the prospective table
without the edit in its span OVERLAP, and nothing changes. It returns the kind of the edit. Here no region is RETIRING for a
withdrawal that is accepted. -/
def Obligations.EditsAreStagedWhileCycling : Prop :=
  (∀ (s : State) (p : HostId) (w : Window), s.ready p → s.isMember p = true → s.ctm.timebase = .cycling → spells s p w →
    placed s p w → newWindow s p w → (∀ v ∈ s.wtu.prospective, apart v w) → s.wtu.segmentsUsed + w.segs.length ≤ 192 →
    s.wtu.edits.length < 32 →
    ∃ t, exec (.stageAdd p) s = .next t ∧ otherPorts p s t ∧
      t = { s with wtu := { s.wtu with edits := s.wtu.edits ++ [⟨w.id, p, .add w⟩] }, ports := t.ports } ∧
      t.port p = (s.port p).doneWith .stageAdd .ok [BitVec.ofNat 16 w.id, 0]) ∧
  (∀ (s : State) (p : HostId) (w old : Window), s.ready p → s.isMember p = true → s.ctm.timebase = .cycling → spells s p w →
    placed s p w → s.param p 6 = BitVec.ofNat 16 w.id → w.id ≤ 63 → w.owner = p → w.cond = .active →
    w.lastStatus = .never → w.lastCycle = 0 → findWindow w.id s.wtu.table = some old → old.owner = p → old.cond = .active →
    (∀ e ∈ s.wtu.edits, e.id ≠ w.id) → (∀ v ∈ s.wtu.prospective, v.id ≠ w.id → apart v w) →
    s.wtu.segmentsUsed + w.segs.length ≤ 192 → s.wtu.edits.length < 32 →
    ∃ t, exec (.stageChange p) s = .next t ∧ otherPorts p s t ∧
      t = { s with wtu := { s.wtu with edits := s.wtu.edits ++ [⟨w.id, p, .change w⟩] }, ports := t.ports } ∧
      t.port p = (s.port p).doneWith .stageChange .ok [0]) ∧
  (∀ (s : State) (p : HostId) (old : Window), s.ready p → s.isMember p = true → s.ctm.timebase = .cycling → old.id ≤ 63 →
    s.param p 0 = BitVec.ofNat 16 old.id → findWindow old.id s.wtu.table = some old → old.owner = p → old.cond = .active →
    (∀ e ∈ s.wtu.edits, e.id ≠ old.id) → s.wtu.edits.length < 32 →
    ∃ t, exec (.stageRemove p) s = .next t ∧ otherPorts p s t ∧
      t = { s with wtu := { s.wtu with edits := s.wtu.edits ++ [⟨old.id, p, .remove⟩] }, ports := t.ports } ∧
      t.port p = (s.port p).doneWith .stageRemove .ok [0]) ∧
  (∀ (s : State) (p : HostId) (w : Window) (pre post : List Edit), s.ready p → s.isMember p = true →
    s.ctm.timebase = .cycling → w.id ≤ 63 → s.param p 0 = BitVec.ofNat 16 w.id → findWindow w.id s.wtu.table = none →
    s.wtu.edits = pre ++ ⟨w.id, p, .add w⟩ :: post → (∀ e ∈ pre ++ post, e.id ≠ w.id) → noRetiring s →
    ∃ t, exec (.withdrawEdit p) s = .next t ∧ otherPorts p s t ∧
      t = { s with wtu := { s.wtu with edits := pre ++ post }, ports := t.ports } ∧
      t.port p = (s.port p).doneWith .withdrawEdit .ok [1]) ∧
  ∀ (s : State) (p : HostId) (old : Window) (pre post : List Edit) (e : Edit), s.ready p → s.isMember p = true →
    s.ctm.timebase = .cycling → old.id ≤ 63 → s.param p 0 = BitVec.ofNat 16 old.id →
    findWindow old.id s.wtu.table = some old → old.owner = p → old.cond = .active → s.wtu.edits = pre ++ e :: post →
    e.id = old.id → e.isAdd = false → (∀ x ∈ pre ++ post, x.id ≠ old.id) →
    let rest := ({ s.wtu with edits := pre ++ post } : Wtu).prospective
    let within := old.start + old.dur ≤ usableEnd s.ctm.params ∧ ∀ l ∈ s.wtu.limit, old.start + old.dur ≤ l
    (within → (∀ v ∈ rest, v.id ≠ old.id → apart v old) → noRetiring s →
      ∃ t, exec (.withdrawEdit p) s = .next t ∧ otherPorts p s t ∧
        t = { s with wtu := { s.wtu with edits := pre ++ post }, ports := t.ports } ∧
        t.port p = (s.port p).doneWith .withdrawEdit .ok [if e.op = .remove then 3 else 2]) ∧
    (¬ within → ∃ t, exec (.withdrawEdit p) s = .next t ∧ onlyAnswers p .withdrawEdit .outsideCycle [] s t) ∧
    (within → (∃ v ∈ rest, v.id ≠ old.id ∧ ¬ apart v old) →
      ∃ t, exec (.withdrawEdit p) s = .next t ∧ onlyAnswers p .withdrawEdit .overlap [] s t)

/-- While the timebase is not CYCLING an accepted edit is applied to the active table at once, in its place by S, and never enters the
list; a CHANGE keeps owner, condition, last status and last cycle, and a REMOVE marks the window's outstanding runs. Disposition
APPLIED is 1. Here the list is empty and, for CHANGE and REMOVE, no region is RETIRING. -/
def Obligations.EditsApplyAtOnceWhileNotCycling : Prop :=
  (∀ (s : State) (p : HostId) (w : Window) (pre post : List Window), s.ready p → s.isMember p = true →
    s.ctm.timebase ≠ .cycling → s.wtu.edits = [] → spells s p w → placed s p w → newWindow s p w →
    s.wtu.table = pre ++ post → (∀ v ∈ pre, v.start < w.start) → (∀ v ∈ post, w.start ≤ v.start) →
    (∀ v ∈ pre ++ post, apart v w) → s.wtu.segmentsUsed + w.segs.length ≤ 192 →
    ∃ t, exec (.stageAdd p) s = .next t ∧ otherPorts p s t ∧
      t = { s with wtu := { s.wtu with table := pre ++ w :: post }, ports := t.ports } ∧
      t.port p = (s.port p).doneWith .stageAdd .ok [BitVec.ofNat 16 w.id, 1]) ∧
  (∀ (s : State) (p : HostId) (w old : Window) (pre post : List Window), s.ready p → s.isMember p = true →
    s.ctm.timebase ≠ .cycling → s.wtu.edits = [] → spells s p w → placed s p w → s.param p 6 = BitVec.ofNat 16 w.id →
    w.id ≤ 63 → findWindow w.id s.wtu.table = some old → old.owner = p → old.cond = .active → w.owner = p →
    w.cond = .active → w.lastStatus = old.lastStatus → w.lastCycle = old.lastCycle →
    s.wtu.table.filter (fun v => v.id != w.id) = pre ++ post → (∀ v ∈ pre, v.start < w.start) →
    (∀ v ∈ post, w.start ≤ v.start) → (∀ v ∈ pre ++ post, apart v w) →
    s.wtu.segmentsUsed + w.segs.length ≤ 192 + old.segs.length → noRetiring s →
    ∃ t, exec (.stageChange p) s = .next t ∧ otherPorts p s t ∧
      t = { s with wtu := { s.wtu with table := pre ++ w :: post }, ports := t.ports } ∧
      t.port p = (s.port p).doneWith .stageChange .ok [1]) ∧
  ∀ (s : State) (p : HostId) (old : Window), s.ready p → s.isMember p = true → s.ctm.timebase ≠ .cycling →
    s.wtu.edits = [] → old.id ≤ 63 → s.param p 0 = BitVec.ofNat 16 old.id → findWindow old.id s.wtu.table = some old →
    old.owner = p → old.cond = .active → noRetiring s →
    ∃ t, exec (.stageRemove p) s = .next t ∧ otherPorts p s t ∧
      t = { s with
        wtu := { s.wtu with
          table := s.wtu.table.filter fun v => v.id != old.id
          runs := s.wtu.runs.map fun r => if r.id = old.id then { r with removed := true } else r }
        ports := t.ports } ∧
      t.port p = (s.port p).doneWith .stageRemove .ok [1]

/-! ## Regions and banks -/

/-- DEFINE_REGION takes the lowest empty slot and the lowest FREE run that is long enough: the region is DEFINED with generation 0 and
every bank FREE, an INPUT region's owner is among its readers, and the words of the run stay. With no run long enough it is
refused NO_SPACE. -/
def Obligations.DefineRegionAllocatesFirstFit : Prop :=
  (∀ (s : State) (p : HostId) (kind : RegionKind) (size banks b : Nat) (readers : HostSet) (i : RegionId), s.ready p →
    s.isMember p = true → asksRegion s p kind size banks readers → lowestSlot s i → b + size * banks ≤ 768 →
    runIsFree s b (size * banks) → (∀ c, c < b → ¬ runIsFree s c (size * banks)) →
    ∃ t, exec (.defineRegion p) s = .next t ∧ otherPorts p s t ∧
      t = { s with
        ports := t.ports
        rgm := { s.rgm with
          regions := put s.rgm.regions i (some
            { kind, owner := p, size, base := b
              readers := if kind = .input then HostSet.plus readers p else 0
              generation := 0, retire := none
              banks := List.replicate banks { role := .free, pins := 0, enginePin := false, content := 0 } }) } } ∧
      t.port p = (s.port p).doneWith .defineRegion .ok [BitVec.ofNat 16 i.val, BitVec.ofNat 16 b]) ∧
  ∀ (s : State) (p : HostId) (kind : RegionKind) (size banks : Nat) (readers : HostSet) (i : RegionId), s.ready p →
    s.isMember p = true → asksRegion s p kind size banks readers → lowestSlot s i →
    (∀ b : Fin 769, b.val + size * banks ≤ 768 → ¬ runIsFree s b.val (size * banks)) →
    ∃ t, exec (.defineRegion p) s = .next t ∧ onlyAnswers p .defineRegion .noSpace [] s t

/-- DELETE_REGION by its owner, of a DEFINED region that no window names: with no bank pinned or FILLING the region is freed at once
and REGION_FREED goes to every member (disposition FREED, 0); otherwise it is RETIRING with cause DELETED and nothing is posted
(disposition RETIRING, 1). A region that a window or a staged edit names is refused REGION_IN_USE. -/
def Obligations.DeleteRegionFreesOrRetires : Prop :=
  ∀ (s : State) (p : HostId) (i : RegionId) (r : Region), s.ready p → s.isMember p = true →
    s.param p 0 = BitVec.ofNat 16 i.val → s.region i = some r → r.owner = p → r.retire = none →
    (s.wtu.names i = true →
      ∃ t, exec (.deleteRegion p) s = .next t ∧ onlyAnswers p .deleteRegion .regionInUse [] s t) ∧
    (s.wtu.names i = false → (∀ k ∈ r.banks, k.pins = 0 ∧ k.enginePin = false ∧ ∀ f, k.role ≠ .filling f) →
      ∃ t, exec (.deleteRegion p) s = .next t ∧
        t = { s with rgm := { s.rgm with regions := put s.rgm.regions i none }, ports := t.ports } ∧
        (∀ q, q ≠ p → t.port q = s.told (.regionFreed i .deleted p r.base r.blocks) q) ∧
        t.port p = ((s.port p).take (.regionFreed i .deleted p r.base r.blocks)).doneWith .deleteRegion .ok [0]) ∧
    (s.wtu.names i = false → (∃ k ∈ r.banks, k.pins ≠ 0 ∨ k.enginePin = true ∨ ∃ f, k.role = .filling f) →
      ∃ t, exec (.deleteRegion p) s = .next t ∧ otherPorts p s t ∧
        t = { s with
          rgm := { s.rgm with regions := put s.rgm.regions i (some { r with retire := some .deleted }) }
          ports := t.ports } ∧
        t.port p = (s.port p).doneWith .deleteRegion .ok [1])

/-- OPEN_READ binds a read aperture to the PUBLISHED bank of an INPUT region and pins it for the host; with none it is refused
NO_DATA. CLOSE_READ takes the pin back, unbinds the aperture, and a HELD bank that keeps no pin becomes FREE; a RETIRING region
that nothing holds or names any more is freed with it, and REGION_FREED goes to every member. -/
def Obligations.OpenReadPinsAndCloseReadReleases : Prop :=
  (∀ (s : State) (p : HostId) (i : RegionId) (a : Fin 4) (r : Region) (b : Nat) (k : Bank), s.ready p →
    s.isMember p = true → s.param p 0 = BitVec.ofNat 16 i.val → s.param p 1 = BitVec.ofNat 16 a.val →
    s.region i = some r → r.kind = .input → HostSet.has r.readers p = true → r.retire = none → s.readHandle p a = none →
    (∀ c, ∀ x ∈ s.readHandle p c, x.region ≠ i) → r.banks[b]? = some k → k.role = .published →
    (∀ x ∈ r.banks.take b, x.role ≠ .published) →
    ∃ t, exec (.openRead p) s = .next t ∧ otherPorts p s t ∧
      t = { s with
        rgm := { s.rgm with
          regions := put s.rgm.regions i (some { r with banks := r.banks.set b { k with pins := HostSet.plus k.pins p } })
          readHandles := put s.rgm.readHandles p
            (put (pick s.rgm.readHandles p) a (some { region := i, bank := b, generation := k.content })) }
        ports := t.ports } ∧
      t.port p = { (s.port p).doneWith .openRead .ok
          [BitVec.ofNat 16 b, k.content.extractLsb' 16 16, k.content.extractLsb' 0 16, BitVec.ofNat 16 (32 * r.size)] with
        readBind := put (s.port p).readBind a (some { region := i, bank := b, words := 32 * r.size }) }) ∧
  (∀ (s : State) (p : HostId) (i : RegionId) (a : Fin 4) (r : Region), s.ready p → s.isMember p = true →
    s.param p 0 = BitVec.ofNat 16 i.val → s.param p 1 = BitVec.ofNat 16 a.val → s.region i = some r → r.kind = .input →
    HostSet.has r.readers p = true → r.retire = none → s.readHandle p a = none →
    (∀ c, ∀ x ∈ s.readHandle p c, x.region ≠ i) → (∀ k ∈ r.banks, k.role ≠ .published) →
    ∃ t, exec (.openRead p) s = .next t ∧ onlyAnswers p .openRead .noData [] s t) ∧
  ∀ (s : State) (p : HostId) (a : Fin 4) (x : Handle) (r : Region) (k : Bank), s.ready p → s.isMember p = true →
    s.param p 0 = BitVec.ofNat 16 a.val → s.readHandle p a = some x → s.region x.region = some r →
    r.banks[x.bank]? = some k →
    let q : Region := { r with banks := r.banks.set x.bank { k with
      pins := HostSet.minus k.pins p
      role := if k.role = .held ∧ HostSet.minus k.pins p = 0 ∧ k.enginePin = false then .free else k.role } }
    ∃ t, exec (.closeRead p) s = .next t ∧
      t = { s with
        rgm := { s.rgm with
          regions := put s.rgm.regions x.region (keptOrFreed s x.region q)
          readHandles := put s.rgm.readHandles p (put (pick s.rgm.readHandles p) a none) }
        ports := t.ports } ∧
      (∀ h, h ≠ p → t.port h = toldAll s (freedEvent s x.region q) h) ∧
      t.port p = { (toldAll s (freedEvent s x.region q) p).doneWith .closeRead .ok
          [BitVec.ofNat 16 x.region.val, x.generation.extractLsb' 16 16, x.generation.extractLsb' 0 16] with
        readBind := put (s.port p).readBind a none }

/-- OPEN_WRITE gives the owner the FREE bank with the lowest index, which becomes FILLING. PUBLISH makes it the PUBLISHED bank under the
next generation, the bank published before HELD or FREE by its pins. ABANDON_WRITE gives it back FREE. A RETIRING region that
nothing holds or names any more is freed with either, and REGION_FREED goes to every member. No word of buffer memory changes.
OPEN_WRITE is stated of a region that is not RETIRING. -/
def Obligations.WriteHandleOpensPublishesOrAbandons : Prop :=
  (∀ (s : State) (p : HostId) (i : RegionId) (r : Region) (b : Nat) (k : Bank), s.ready p → s.isMember p = true →
    s.param p 0 = BitVec.ofNat 16 i.val → s.region i = some r → r.kind = .output → r.owner = p → r.retire = none →
    s.writeHandle p = none → r.banks[b]? = some k → k.role = .free →
    (∀ x ∈ r.banks.take b, x.role ≠ .free) →
    ∃ t, exec (.openWrite p) s = .next t ∧ otherPorts p s t ∧
      t = { s with
        rgm := { s.rgm with
          regions := put s.rgm.regions i (some { r with banks := r.banks.set b { k with role := .filling .writeHandle } })
          writeHandles := put s.rgm.writeHandles p (some { region := i, bank := b, generation := k.content }) }
        ports := t.ports } ∧
      t.port p = { (s.port p).doneWith .openWrite .ok
          [BitVec.ofNat 16 i.val, BitVec.ofNat 16 b, k.content.extractLsb' 16 16, k.content.extractLsb' 0 16,
           BitVec.ofNat 16 (32 * r.size)] with
        writeBind := some { region := i, bank := b, words := 32 * r.size } }) ∧
  (∀ (s : State) (p : HostId) (x : Handle) (r : Region) (k : Bank), s.ready p → s.isMember p = true →
    s.writeHandle p = some x → s.region x.region = some r → r.banks[x.bank]? = some k →
    let g := generationAfter r.generation
    ∃ (t : State) (q : Region), exec (.publish p) s = .next t ∧
      q = { r with generation := g, banks := q.banks } ∧ publishedAt r.banks q.banks x.bank g ∧
      t = { s with
        rgm := { s.rgm with
          regions := put s.rgm.regions x.region (keptOrFreed s x.region q)
          writeHandles := put s.rgm.writeHandles p none }
        ports := t.ports } ∧
      (∀ h, h ≠ p → t.port h = toldAll s (freedEvent s x.region q) h) ∧
      t.port p = { (toldAll s (freedEvent s x.region q) p).doneWith .publish .ok
          [BitVec.ofNat 16 x.region.val, BitVec.ofNat 16 x.bank, g.extractLsb' 16 16, g.extractLsb' 0 16] with
        writeBind := none }) ∧
  ∀ (s : State) (p : HostId) (x : Handle) (r : Region) (k : Bank), s.ready p → s.isMember p = true →
    s.writeHandle p = some x → s.region x.region = some r → r.banks[x.bank]? = some k →
    let q : Region := { r with banks := r.banks.set x.bank { k with role := .free } }
    ∃ t, exec (.abandonWrite p) s = .next t ∧
      t = { s with
        rgm := { s.rgm with
          regions := put s.rgm.regions x.region (keptOrFreed s x.region q)
          writeHandles := put s.rgm.writeHandles p none }
        ports := t.ports } ∧
      (∀ h, h ≠ p → t.port h = toldAll s (freedEvent s x.region q) h) ∧
      t.port p = { (toldAll s (freedEvent s x.region q) p).doneWith .abandonWrite .ok
          [BitVec.ofNat 16 x.region.val, BitVec.ofNat 16 x.bank] with
        writeBind := none }

/-! ## Requests and targets -/

/-- SUBMIT appends the request to the issuer's queue and returns its estimate and its place; an IDLE engine then has OTA's choice. A
probe that fits comes before every host. Otherwise the hosts are taken in round-robin order from the host after the pointer: a
host without a request, or whose head does not fit, is passed over; the first head with an ONLINE target that fits is handed
over, the engine OPEN, the pointer at its host, the access of its first word begun; a head whose target is not ONLINE comes to
its end at once, TARGET_DISABLED or TARGET_FAULTED with no words done, told to its owner, the pointer at its host, and a
further choice follows, stated where that serves nothing. Where the engine is not IDLE or everyone is passed over the pointer
stays and nothing is handed over. In these no start is due where something is handed over.
Where a window's start is due at that instant, the hand-over and the announcement reach the engine together: either the engine
is OPEN with the request, or it has taken the start and the request is back at the head of its queue with the pointer where it
was. Which of the two is the model's free value (log entry 6). -/
def Obligations.SubmitQueuesTheRequest : Prop :=
  (∀ (s : State) (p : HostId) (r : Request), s.ready p → s.isMember p = true → asksRequest s p r → tagUnused s p r.tag →
    (s.queue p).length < 8 → (s.ctm.timebase = .cycling → r.estimate ≤ s.longestOpen) →
    let u := appended s p r
    let place := BitVec.ofNat 16 ((s.queue p).length + 1)
    (s.txe.state ≠ .idle ∨ (probeWaits s ∧ ∀ k, passedOver u k) →
      ∃ t, exec (.submit p) s = .next t ∧ otherPorts p s t ∧ t = { u with ports := t.ports } ∧
        t.port p = (s.port p).doneWith .submit .ok [BitVec.ofNat 16 r.estimate, place]) ∧
    (∀ (x : TargetId) (xs : List TargetId), s.txe.state = .idle → s.tbi.hold = false → noStartDue s →
      s.ota.probes = x :: xs → s.target x = .probing → fitsOpen s (probeTicks s x) →
      ∃ t, exec (.submit p) s = .next t ∧ otherPorts p s t ∧
        t = { u with
          txe := { s.txe with state := .openRun }, tbi := { s.tbi with access := some (probeBegun s x) }
          ota := { u.ota with probes := xs, probing := some x }, ports := t.ports } ∧
        t.port p = (s.port p).doneWith .submit .ok [BitVec.ofNat 16 r.estimate, place]) ∧
    ∀ (h : HostId) (y : Request) (rest : List Request), s.txe.state = .idle → probeWaits s → u.queue h = y :: rest →
      (∀ k, turn s.ota.pointer k < turn s.ota.pointer h → passedOver u k) →
      (s.target y.target = .online → fitsOpen s y.estimate → s.tbi.hold = false → noStartDue s →
        ∃ t, exec (.submit p) s = .next t ∧ otherPorts p s t ∧
          t = { s with
            txe := { s.txe with state := .openRun }, tbi := { s.tbi with access := some (requestBegun s h y) }
            ota := { s.ota with
              queues := put u.ota.queues h rest, pointer := h
              running := some { owner := h, req := y, former := false, done := 0, lastRead := 0 } }
            ports := t.ports } ∧
          t.port p = (s.port p).doneWith .submit .ok [BitVec.ofNat 16 r.estimate, place]) ∧
      (s.target y.target ≠ .online →
        let v : State := { s with ota := { s.ota with queues := put u.ota.queues h rest, pointer := h } }
        let st : ReqStatus := if s.target y.target = .disabled then .targetDisabled else .targetFaulted
        let told (q : HostId) : List Event := if q = h then [.requestDone y.tag st y.kind y.target 0] else []
        (∀ k, passedOver v k) →
        ∃ t, exec (.submit p) s = .next t ∧ t = { v with ports := t.ports } ∧
          (∀ q, q ≠ p → t.port q = toldAll s (told q) q) ∧
          t.port p = (toldAll s (told p) p).doneWith .submit .ok [BitVec.ofNat 16 r.estimate, place])) ∧
  ∀ (s : State) (p : HostId) (r : Request) (pre post : List Window) (w : Window), s.ready p → s.isMember p = true →
    asksRequest s p r → tagUnused s p r.tag → dueIs s pre post w → 0 < w.dur → w.segs ≠ [] → w.notify = false →
    (s.region w.region).isSome = true → r.estimate ≤ s.longestOpen → 0 < r.estimate →
    s.ctm.counter + r.estimate ≤ nextRunningStart s → s.txe.state = .idle → s.ota.running = none → s.ota.probes = [] →
    (∀ h, s.queue h = []) → s.target r.target = .online →
    ∃ t, exec (.submit p) s = .next t ∧ otherPorts p s t ∧
      t.port p = (s.port p).doneWith .submit .ok [BitVec.ofNat 16 r.estimate, 1] ∧
      ((t.txe.state = .openRun ∧ t.wtu = s.wtu ∧ t.ota = { s.ota with
          running := some { owner := p, req := r, former := false, done := 0, lastRead := 0 }, pointer := p }) ∨
        (t.txe.state = .window ∧ t.wtu.announceDue = false ∧
          t.ota = { s.ota with queues := put s.ota.queues p [r] }))

/-- CANCEL of a queued tag takes the request out of the issuer's queue, which closes the gap, posts REQUEST_DONE (CANCELLED, no words
done) to the issuer and returns the tag; a tag in progress is refused IN_PROGRESS. Here the engine is not IDLE. -/
def Obligations.CancelTakesTheRequestBack : Prop :=
  (∀ (s : State) (p : HostId) (pre post : List Request) (r : Request), s.ready p → s.isMember p = true → r.tag ≤ 255 →
    s.param p 0 = BitVec.ofNat 16 r.tag → s.queue p = pre ++ r :: post → (∀ x ∈ pre, x.tag ≠ r.tag) → s.txe.state ≠ .idle →
    ∃ t, exec (.cancel p) s = .next t ∧ otherPorts p s t ∧
      t = { s with ota := { s.ota with queues := put s.ota.queues p (pre ++ post) }, ports := t.ports } ∧
      t.port p = ((s.port p).take (.requestDone r.tag .cancelled r.kind r.target 0)).doneWith .cancel .ok
        [BitVec.ofNat 16 r.tag]) ∧
  ∀ (s : State) (p : HostId) (y : RunningReq), s.ready p → s.isMember p = true → y.req.tag ≤ 255 →
    s.param p 0 = BitVec.ofNat 16 y.req.tag → (∀ x ∈ s.queue p, x.tag ≠ y.req.tag) → s.ota.running = some y → y.owner = p →
    y.former = false →
    ∃ t, exec (.cancel p) s = .next t ∧ onlyAnswers p .cancel .inProgress [] s t

/-- TARGET_RESTORE: its checks in their order, each with its refusal and no other effect; when they pass the target is PROBING, a probe
of it is queued, TARGET_STATE from FAULTED goes to every member, the profile stays, and the command returns PROBING. Where the
engine is not IDLE the probe waits; where it is IDLE and nothing else waits, while not CYCLING, the probe is handed over. -/
def Obligations.TargetRestoreChecksAndEffect : Prop :=
  (∀ (s : State) (p : HostId), s.ready p → s.isMember p = false →
    ∃ t, exec (.targetRestore p) s = .next t ∧ onlyAnswers p .targetRestore .notMember [] s t) ∧
  (∀ (s : State) (p : HostId), s.ready p → s.isMember p = true → 8 ≤ (s.param p 0).toNat →
    ∃ t, exec (.targetRestore p) s = .next t ∧ onlyAnswers p .targetRestore .badParam [] s t) ∧
  (∀ (s : State) (p : HostId) (x : TargetId), s.ready p → s.isMember p = true → s.param p 0 = BitVec.ofNat 16 x.val →
    s.target x ≠ .faulted →
    ∃ t, exec (.targetRestore p) s = .next t ∧ onlyAnswers p .targetRestore .notFaulted [] s t) ∧
  ∀ (s : State) (p : HostId) (x : TargetId), s.ready p → s.isMember p = true → s.param p 0 = BitVec.ofNat 16 x.val →
    s.target x = .faulted →
    let e : Event := .targetState x .probing .faulted .restore
    (s.txe.state ≠ .idle → x ∉ s.ota.probes → s.ota.probing ≠ some x →
      ∃ t, exec (.targetRestore p) s = .next t ∧
        t = { s with
          tbi := { s.tbi with states := put s.tbi.states x .probing }
          ota := { s.ota with probes := s.ota.probes ++ [x] }
          ports := t.ports } ∧
        (∀ q, q ≠ p → t.port q = s.told e q) ∧ t.port p = ((s.port p).take e).doneWith .targetRestore .ok [1]) ∧
    (s.txe.state = .idle → s.ota.probes = [] → s.ota.probing = none → s.ctm.timebase ≠ .cycling → s.tbi.hold = false →
      ∃ t, exec (.targetRestore p) s = .next t ∧
        t = { s with
          tbi := { s.tbi with
            states := put s.tbi.states x .probing
            access := some { target := x, reg := 0, write := false, kind := .probe, data := 0, profile := s.profile x
                             burst := false, phase := .setup, elapsed := 0, timedOut := false } }
          txe := { s.txe with state := .openRun }
          ota := { s.ota with probing := some x }
          ports := t.ports } ∧
        (∀ q, q ≠ p → t.port q = s.told e q) ∧ t.port p = ((s.port p).take e).doneWith .targetRestore .ok [1])

/-! ## Host ports -/

/-- A refused command has no effect but its answer: whenever a port that is IDLE or DONE ends DONE with a status other than OK, nothing
but that port has changed, its result words are zero, and no event was posted. For the staging commands the timebase is CYCLING
or no edit is listed, so that no reaction to an earlier boundary is owed first. -/
def Obligations.RefusedCommandsHaveNoEffect : Prop :=
  ∀ (s t : State) (p : HostId) (k : Cmd), s.ready p →
    (k ∈ [.stageAdd, .stageChange, .stageRemove, .withdrawEdit] → s.ctm.timebase = .cycling ∨ s.wtu.edits = []) →
    exec (k.instr p) s = .next t → (t.port p).state = .done → (t.port p).lastStatus ≠ 0 →
    t = { s with ports := t.ports } ∧ otherPorts p s t ∧
      t.port p = { s.port p with
        state := .done, lastCommand := k.code, lastStatus := (t.port p).lastStatus, results := .replicate 8 0
        captured := none }

/-- A code that names no command is answered BAD_COMMAND by the port itself. A write to COMMAND while the port is BUSY or its discard
mark is SET only sets the issue-while-busy flag. While PRST_N or RST_N is low both are ignored and set no flag. -/
def Obligations.BadAndBusyCommandWrites : Prop :=
  (∀ (s : State) (p : HostId) (v : Word), s.ready p → (∀ k ∈ allCmds, k.code ≠ v.extractLsb' 0 8) →
    ∃ t, exec (.badCommand p v) s = .next t ∧ t = { s with ports := t.ports } ∧ otherPorts p s t ∧
      t.port p = { s.port p with
        state := .done, lastCommand := v.extractLsb' 0 8, lastStatus := 35, results := .replicate 8 0
        captured := none }) ∧
  (∀ (s : State) (p : HostId) (v : Word), s.resetLow = false → (s.port p).resetLow = false →
    (s.port p).state = .busy ∨ (s.port p).discard = true →
    ∃ t, exec (.issueWhileBusy p v) s = .next t ∧ t = { s with ports := t.ports } ∧ otherPorts p s t ∧
      t.port p = { s.port p with issueBusy := true }) ∧
  ∀ (s : State) (p : HostId) (v : Word), s.resetLow = true ∨ (s.port p).resetLow = true →
    exec (.issueWhileBusy p v) s = .next s ∧
      ((∀ k ∈ allCmds, k.code ≠ v.extractLsb' 0 8) → exec (.badCommand p v) s = .next s)

/-- A write to EVENT_POP takes the oldest record out of the queue into E0 to E5, with the overflow flag in bit 15 of E0 as the marker
was, and clears the marker; with the queue empty E0 to E5 are zero. The interrupt line then shows what is left. -/
def Obligations.EventPopTakesTheOldestRecord : Prop :=
  (∀ (s : State) (p : HostId) (v : Word) (e : Event) (rest : List Event), s.resetLow = false →
    (s.port p).resetLow = false → (s.port p).events = e :: rest →
    ∃ t, exec (.eventPop p v) s = .next t ∧ t = { s with ports := t.ports } ∧ otherPorts p s t ∧
      t.port p = { s.port p with events := rest, overflow := false, popped := e.words (s.port p).overflow } ∧
      (pick (t.port p).popped 0).getLsbD 15 = (s.port p).overflow ∧
      t.interruptLine p = ((s.port p).irqEnable && !rest.isEmpty)) ∧
  (∀ (s : State) (p : HostId) (v : Word), s.resetLow = false → (s.port p).resetLow = false → (s.port p).events = [] →
    ∃ t, exec (.eventPop p v) s = .next t ∧ t = { s with ports := t.ports } ∧ otherPorts p s t ∧
      t.port p = { s.port p with popped := .replicate 6 0 } ∧ t.interruptLine p = false) ∧
  ∀ (s : State) (p : HostId) (v : Word), s.resetLow = true ∨ (s.port p).resetLow = true →
    exec (.eventPop p v) s = .next s

/-- Writes to the register page: PORT_FLAGS clears each flag whose bit is 1, PORT_CONTROL sets the interrupt enable and with it the line,
P0 to P7 and S0 to S23 take the word in every port state, and a write to a read-only register or an unnamed address only sets
the access-error flag. While PRST_N or RST_N is low every write is ignored. -/
def Obligations.RegisterPageWrites : Prop :=
  (∀ (s : State) (p : HostId) (v : Word), s.resetLow = false → (s.port p).resetLow = false →
    ∃ t, exec (.portFlagsWrite p v) s = .next t ∧ t = { s with ports := t.ports } ∧ otherPorts p s t ∧
      t.port p = { s.port p with
        accessError := (s.port p).accessError && !v.getLsbD 0, issueBusy := (s.port p).issueBusy && !v.getLsbD 1 }) ∧
  (∀ (s : State) (p : HostId) (v : Word), s.resetLow = false → (s.port p).resetLow = false →
    ∃ t, exec (.portControlWrite p v) s = .next t ∧ t = { s with ports := t.ports } ∧ otherPorts p s t ∧
      t.port p = { s.port p with irqEnable := v.getLsbD 0 } ∧
      t.interruptLine p = (v.getLsbD 0 && !(s.port p).events.isEmpty)) ∧
  (∀ (s : State) (p : HostId) (v : Word), s.resetLow = false → (s.port p).resetLow = false →
    (∀ i : Fin 8, ∃ t, exec (.registerWrite p (BitVec.ofNat 15 (0x04 + i.val)) v) s = .next t ∧
      t = { s with ports := t.ports } ∧ otherPorts p s t ∧
      t.port p = { s.port p with params := put (s.port p).params i v }) ∧
    (∀ i : Fin 24, ∃ t, exec (.registerWrite p (BitVec.ofNat 15 (0x20 + i.val)) v) s = .next t ∧
      t = { s with ports := t.ports } ∧ otherPorts p s t ∧
      t.port p = { s.port p with segArea := put (s.port p).segArea i v }) ∧
    ∀ a, flaggedAddress a → ∃ t, exec (.registerWrite p a v) s = .next t ∧ t = { s with ports := t.ports } ∧
      otherPorts p s t ∧ t.port p = { s.port p with accessError := true }) ∧
  ∀ (s : State) (p : HostId) (a : BitVec 15) (v : Word), s.resetLow = true ∨ (s.port p).resetLow = true →
    exec (.portFlagsWrite p v) s = .next s ∧ exec (.portControlWrite p v) s = .next s ∧
      exec (.registerWrite p a v) s = .next s

/-- An aperture read within a bound bank returns its word; an aperture write through W stores the word there and nowhere else. Any other
aperture access returns 0 or is ignored, and sets the access-error flag; while PRST_N or RST_N is low a read returns 0 and sets no
flag. `dataOut` is the word the port last drove (log entry 3). -/
def Obligations.ApertureAccesses : Prop :=
  (∀ (s : State) (p : HostId) (ap : Aperture) (w : Fin 2048) (b : Binding) (r : Region), s.resetLow = false →
    (s.port p).resetLow = false → (s.port p).binding ap = some b → w.val < b.words → s.region b.region = some r →
    ∃ t, exec (.apertureRead p ap w) s = .next t ∧ t = { s with ports := t.ports } ∧ otherPorts p s t ∧
      t.port p = { s.port p with dataOut := s.rgm.mem.read (wordBehind r b w.val) }) ∧
  (∀ (s : State) (p : HostId) (w : Fin 2048) (v : Word) (b : Binding) (r : Region), s.memoryOk → s.resetLow = false →
    (s.port p).resetLow = false → (s.port p).writeBind = some b → w.val < b.words → s.region b.region = some r →
    wordBehind r b w.val < 24576 →
    ∃ t, exec (.apertureWrite p .w w v) s = .next t ∧ t = { s with rgm := { s.rgm with mem := t.rgm.mem } } ∧
      ∀ x, t.rgm.mem.read x = if x = wordBehind r b w.val then v else s.rgm.mem.read x) ∧
  (∀ (s : State) (p : HostId) (ap : Aperture) (w : Fin 2048) (v : Word), s.resetLow = false → (s.port p).resetLow = false →
    ((∀ b, (s.port p).binding ap = some b → b.words ≤ w.val) →
      ∃ t, exec (.apertureRead p ap w) s = .next t ∧ t = { s with ports := t.ports } ∧ otherPorts p s t ∧
        t.port p = { s.port p with dataOut := 0, accessError := true }) ∧
    (ap ≠ .w ∨ (∀ b, (s.port p).binding ap = some b → b.words ≤ w.val) →
      ∃ t, exec (.apertureWrite p ap w v) s = .next t ∧ t = { s with ports := t.ports } ∧ otherPorts p s t ∧
        t.port p = { s.port p with accessError := true })) ∧
  ∀ (s : State) (p : HostId) (ap : Aperture) (w : Fin 2048) (v : Word), s.resetLow = true ∨ (s.port p).resetLow = true →
    exec (.apertureWrite p ap w v) s = .next s ∧
      ∃ t, exec (.apertureRead p ap w) s = .next t ∧ t = { s with ports := t.ports } ∧ otherPorts p s t ∧
        t.port p = { s.port p with dataOut := 0 }

/-- Mailbox word j of a port's host is written and read at address 0x0100 + j, whatever the port state and whether or not the host is a
member; no flag changes, and no other word of any mailbox. -/
def Obligations.MailboxIsReadAndWritten : Prop :=
  ∀ (s : State) (p : HostId) (j : Fin 256) (v : Word), s.memoryOk → s.resetLow = false → (s.port p).resetLow = false →
    hostRead p (BitVec.ofNat 15 (0x0100 + j.val)) s = (pick s.ota.mailboxes p).read j.val ∧
    ∃ t, exec (.mailboxWrite p j v) s = .next t ∧
      t = { s with ota := { s.ota with mailboxes := t.ota.mailboxes } } ∧
      (∀ q, q ≠ p → pick t.ota.mailboxes q = pick s.ota.mailboxes q) ∧
      (∀ x, (pick t.ota.mailboxes p).read x = if x = j.val then v else (pick s.ota.mailboxes p).read x) ∧
      hostRead p (BitVec.ofNat 15 (0x0100 + j.val)) t = v

/-! ## Laws that every step keeps -/

/-- Every law of the block holds right after reset. -/
def Obligations.ResetMeetsEveryLaw : Prop := State.reset.safe

/-- Every step keeps the canonical form of buffer memory and of every mailbox, and every step keeps each event queue at 32 records at
most with its overflow marker SET only while it is full. -/
def Obligations.EveryStepKeepsMemoryAndQueues : Prop :=
  (∀ s t : State, s.memoryOk → step s = .next t → t.memoryOk) ∧
  ∀ s t : State, s.queuesOk → step s = .next t → t.queuesOk

/-- Every step keeps the timebase's laws: parameters in range wherever they are held, the counter below L, 0 with the slot EMPTY while
not CYCLING, and the sub-state and missed-pulse count in agreement. -/
def Obligations.EveryStepKeepsTheTimebase : Prop :=
  ∀ s t : State, s.timebaseOk → step s = .next t → t.timebaseOk

/-- Every step keeps the agreement's laws: no member departs, the required set lies in the members, the accepted set in the required
set, and the id counter and the vote timer stay in their ranges. -/
def Obligations.EveryStepKeepsTheAgreement : Prop :=
  ∀ s t : State, s.agreementOk → step s = .next t → t.agreementOk

/-- Every step keeps the pool's laws: regions of 2 or 3 banks inside the 768 blocks, no two sharing a block, at most one PUBLISHED bank
in each. Every step keeps the limits: at most 32 staged edits, at most 8 requests in a queue, and no target with two probes. -/
def Obligations.EveryStepKeepsTheRegionsAndLimits : Prop :=
  (∀ s t : State, s.regionsOk → step s = .next t → t.regionsOk) ∧
  ∀ s t : State, s.limitsOk → step s = .next t → t.limitsOk

/-- Every step keeps the window table's laws: one record for an id, ordered by S, the spans pairwise disjoint, in the active table and in
the prospective table without its ORPHANED windows; every staged edit fits the active table; at most 192 store entries in use. -/
def Obligations.EveryStepKeepsTheWindowTable : Prop :=
  ∀ s t : State, s.windowsOk → step s = .next t → t.windowsOk

/-- Every step keeps the agreement of banks, pins and handles: the host pins of a bank are the hosts whose read handles are bound to it,
a bank is FILLING exactly for the open write handle or the engine's fill claim on it, the engine pin stands exactly for the
drain claim, FREE and FILLING banks carry no pin, HELD banks carry one, at most one bank of a region is FILLING, every aperture
shows RGM's handle, the engine's claim and RGM's agree, and what may still claim names a region of the kind it needs. -/
def Obligations.EveryStepKeepsTheBanks : Prop :=
  ∀ s t : State, s.banksOk → step s = .next t → t.banksOk
end

