-- ==== Sys2Proof/Laws/Containers.lean ====
section
/-!
SUPPORT. The laws of the containers of State: a fixed number of like things, sets of hosts, and word storage in its
canonical form.
-/
namespace Sys2Proof

/-! ## pick and put -/

@[simp] theorem pick_put_same {α : Type} {n : Nat} (v : Vector α n) (i : Fin n) (x : α) : pick (put v i x) i = x := by
  simp [pick, put]

theorem pick_put_ne {α : Type} {n : Nat} (v : Vector α n) {i j : Fin n} (x : α) (h : j ≠ i) :
    pick (put v i x) j = pick v j := by
  have : i.val ≠ j.val := fun e => h (Fin.ext e.symm)
  simp [pick, put, this]

/-- What an entry reads after one entry is replaced. -/
theorem pick_put {α : Type} {n : Nat} (v : Vector α n) (i j : Fin n) (x : α) :
    pick (put v i x) j = if j = i then x else pick v j := by
  split
  · subst_vars; exact pick_put_same v _ x
  · exact pick_put_ne v x ‹_›

@[simp] theorem pick_replicate {α : Type} {n : Nat} (x : α) (i : Fin n) : pick (Vector.replicate n x) i = x := by
  simp [pick]

@[simp] theorem pick_map {α β : Type} {n : Nat} (f : α → β) (v : Vector α n) (i : Fin n) :
    pick (v.map f) i = f (pick v i) := by simp [pick]

/-- Entry by entry equal. -/
theorem vector_ext {α : Type} {n : Nat} {v w : Vector α n} (h : ∀ i, pick v i = pick w i) : v = w :=
  Vector.ext fun i hi => h ⟨i, hi⟩

@[simp] theorem put_pick {α : Type} {n : Nat} (v : Vector α n) (i : Fin n) : put v i (pick v i) = v :=
  vector_ext fun j => by rw [pick_put]; split <;> simp_all

/-! ## Sets of hosts -/

/-- Membership after a host is added. -/
theorem HostSet.has_plus (s : HostSet) (h k : HostId) : HostSet.has (HostSet.plus s h) k = (decide (k = h) || HostSet.has s k) := by
  revert s h k; decide +kernel

/-- Membership after a host is taken out. -/
theorem HostSet.has_minus (s : HostSet) (h k : HostId) :
    HostSet.has (HostSet.minus s h) k = (!decide (k = h) && HostSet.has s k) := by
  revert s h k; decide +kernel

/-- Sets with the same members are equal. -/
theorem HostSet.ext {s t : HostSet} (h : ∀ k, HostSet.has s k = HostSet.has t k) : s = t := by
  revert s t; decide +kernel

@[simp] theorem mem_allHosts (h : HostId) : h ∈ allHosts := by revert h; decide

namespace Machine

/-! ## Word storage -/

theorem WordMem.wfFrom_mono {lo lo' hi : Nat} (h : lo' ≤ lo) : ∀ {m : WordMem}, WordMem.wfFrom lo hi m = true →
    WordMem.wfFrom lo' hi m = true
  | [], _ => rfl
  | (k, x) :: m, w => by
    simp only [WordMem.wfFrom, Bool.and_eq_true, decide_eq_true_eq] at w ⊢
    exact ⟨⟨⟨by omega, w.1.1.2⟩, w.1.2⟩, w.2⟩

theorem WordMem.wfFrom_cons {lo hi a : Nat} {v : Word} {m : WordMem} (hl : lo ≤ a) (hh : a < hi)
    (w : WordMem.wfFrom (a + 1) hi m = true) : WordMem.wfFrom lo hi (WordMem.cons a v m) = true := by
  unfold WordMem.cons
  split
  · exact WordMem.wfFrom_mono (by omega) w
  · simp only [WordMem.wfFrom, Bool.and_eq_true, decide_eq_true_eq]
    exact ⟨⟨⟨hl, hh⟩, ‹_›⟩, w⟩

/-- A write inside the store keeps the canonical form. -/
theorem WordMem.wfFrom_write {hi a : Nat} (v : Word) (hh : a < hi) : ∀ {m : WordMem} {lo : Nat}, lo ≤ a →
    WordMem.wfFrom lo hi m = true → WordMem.wfFrom lo hi (m.write a v) = true
  | [], lo, hl, _ => WordMem.wfFrom_cons hl hh rfl
  | (k, x) :: m, lo, hl, w => by
    have w' := w
    simp only [WordMem.wfFrom, Bool.and_eq_true, decide_eq_true_eq] at w
    unfold WordMem.write
    split
    · refine WordMem.wfFrom_cons hl hh ?_
      simp only [WordMem.wfFrom, Bool.and_eq_true, decide_eq_true_eq]
      exact ⟨⟨⟨by omega, w.1.1.2⟩, w.1.2⟩, w.2⟩
    · split
      · subst_vars
        exact WordMem.wfFrom_cons hl hh w.2
      · simp only [WordMem.wfFrom, Bool.and_eq_true, decide_eq_true_eq]
        exact ⟨⟨⟨w.1.1.1, w.1.1.2⟩, w.1.2⟩, WordMem.wfFrom_write v hh (by omega) w.2⟩

/-- Every memory operation that writes keeps the canonical form. -/
theorem WordMem.wf_write {size a : Nat} (v : Word) (m : WordMem) (hh : a < size) (w : WordMem.wf size m = true) :
    WordMem.wf size (m.write a v) = true := WordMem.wfFrom_write v hh (Nat.zero_le _) w

@[simp] theorem WordMem.wf_nil (size : Nat) : WordMem.wf size [] = true := rfl

theorem WordMem.read_below {hi : Nat} : ∀ {m : WordMem} {lo a : Nat}, WordMem.wfFrom lo hi m = true → a < lo → m.read a = 0
  | [], _, _, _, _ => rfl
  | (k, x) :: m, lo, a, w, h => by
    simp only [WordMem.wfFrom, Bool.and_eq_true, decide_eq_true_eq] at w
    rw [WordMem.read, if_neg (by omega), if_pos (by omega)]

theorem WordMem.read_cons {hi a b : Nat} {v : Word} {m : WordMem} (w : WordMem.wfFrom (a + 1) hi m = true) :
    (WordMem.cons a v m).read b = if b = a then v else m.read b := by
  unfold WordMem.cons
  split
  · split
    · subst_vars; exact WordMem.read_below w (by omega)
    · rfl
  · rw [WordMem.read]
    split
    · simp_all
    · split
      · rw [if_neg (by omega), WordMem.read_below w (by omega)]
      · rw [if_neg (by omega)]

/-- A read after a write: the word written at its address, and every other word as before. -/
theorem WordMem.read_write {hi a b : Nat} (v : Word) : ∀ {m : WordMem} {lo : Nat}, WordMem.wfFrom lo hi m = true →
    (m.write a v).read b = if b = a then v else m.read b
  | [], _, _ => WordMem.read_cons (hi := a + 1) rfl
  | (k, x) :: m, lo, w => by
    have w' := w
    simp only [WordMem.wfFrom, Bool.and_eq_true, decide_eq_true_eq] at w
    unfold WordMem.write
    split
    · refine WordMem.read_cons (hi := hi) ?_
      simp only [WordMem.wfFrom, Bool.and_eq_true, decide_eq_true_eq]
      exact ⟨⟨⟨by omega, w.1.1.2⟩, w.1.2⟩, w.2⟩
    · split
      · subst_vars
        rw [WordMem.read_cons w.2]
        split
        · rfl
        · rw [WordMem.read, if_neg (by omega)]
          split
          · rw [WordMem.read_below w.2 (by omega)]
          · rfl
      · rw [WordMem.read, WordMem.read_write v w.2, WordMem.read]
        split
        · subst_vars; rw [if_neg (by omega)]
        · split
          · rw [if_neg (by omega)]
          · rfl

end Machine
end Sys2Proof
end

