-- ==== Sys2Proof/Laws/State.lean ====
section
/-!
SUPPORT. One lemma per field per record update of State, and the port an update of one port leaves, all for simp.
-/
namespace Sys2Proof.Machine

/-! ## State.setCtm -/

@[simp] theorem State.setCtm_ctm (s : State) (x : Ctm) : (s.setCtm x).ctm = x := rfl
@[simp] theorem State.setCtm_wtu (s : State) (x : Ctm) : (s.setCtm x).wtu = s.wtu := rfl
@[simp] theorem State.setCtm_agu (s : State) (x : Ctm) : (s.setCtm x).agu = s.agu := rfl
@[simp] theorem State.setCtm_rgm (s : State) (x : Ctm) : (s.setCtm x).rgm = s.rgm := rfl
@[simp] theorem State.setCtm_txe (s : State) (x : Ctm) : (s.setCtm x).txe = s.txe := rfl
@[simp] theorem State.setCtm_ota (s : State) (x : Ctm) : (s.setCtm x).ota = s.ota := rfl
@[simp] theorem State.setCtm_tbi (s : State) (x : Ctm) : (s.setCtm x).tbi = s.tbi := rfl
@[simp] theorem State.setCtm_ports (s : State) (x : Ctm) : (s.setCtm x).ports = s.ports := rfl
@[simp] theorem State.setCtm_resetLow (s : State) (x : Ctm) : (s.setCtm x).resetLow = s.resetLow := rfl
@[simp] theorem State.setCtm_sample (s : State) (x : Ctm) : (s.setCtm x).sample = s.sample := rfl
@[simp] theorem State.setCtm_pending (s : State) (x : Ctm) : (s.setCtm x).pending = s.pending := rfl
@[simp] theorem State.setCtm_port (s : State) (x : Ctm) (q : HostId) : (s.setCtm x).port q = s.port q := rfl
@[simp] theorem State.setCtm_isMember (s : State) (x : Ctm) (q : HostId) : (s.setCtm x).isMember q = s.isMember q := rfl

/-! ## State.setWtu -/

@[simp] theorem State.setWtu_ctm (s : State) (x : Wtu) : (s.setWtu x).ctm = s.ctm := rfl
@[simp] theorem State.setWtu_wtu (s : State) (x : Wtu) : (s.setWtu x).wtu = x := rfl
@[simp] theorem State.setWtu_agu (s : State) (x : Wtu) : (s.setWtu x).agu = s.agu := rfl
@[simp] theorem State.setWtu_rgm (s : State) (x : Wtu) : (s.setWtu x).rgm = s.rgm := rfl
@[simp] theorem State.setWtu_txe (s : State) (x : Wtu) : (s.setWtu x).txe = s.txe := rfl
@[simp] theorem State.setWtu_ota (s : State) (x : Wtu) : (s.setWtu x).ota = s.ota := rfl
@[simp] theorem State.setWtu_tbi (s : State) (x : Wtu) : (s.setWtu x).tbi = s.tbi := rfl
@[simp] theorem State.setWtu_ports (s : State) (x : Wtu) : (s.setWtu x).ports = s.ports := rfl
@[simp] theorem State.setWtu_resetLow (s : State) (x : Wtu) : (s.setWtu x).resetLow = s.resetLow := rfl
@[simp] theorem State.setWtu_sample (s : State) (x : Wtu) : (s.setWtu x).sample = s.sample := rfl
@[simp] theorem State.setWtu_pending (s : State) (x : Wtu) : (s.setWtu x).pending = s.pending := rfl
@[simp] theorem State.setWtu_port (s : State) (x : Wtu) (q : HostId) : (s.setWtu x).port q = s.port q := rfl
@[simp] theorem State.setWtu_isMember (s : State) (x : Wtu) (q : HostId) : (s.setWtu x).isMember q = s.isMember q := rfl

/-! ## State.setAgu -/

@[simp] theorem State.setAgu_ctm (s : State) (x : Agu) : (s.setAgu x).ctm = s.ctm := rfl
@[simp] theorem State.setAgu_wtu (s : State) (x : Agu) : (s.setAgu x).wtu = s.wtu := rfl
@[simp] theorem State.setAgu_agu (s : State) (x : Agu) : (s.setAgu x).agu = x := rfl
@[simp] theorem State.setAgu_rgm (s : State) (x : Agu) : (s.setAgu x).rgm = s.rgm := rfl
@[simp] theorem State.setAgu_txe (s : State) (x : Agu) : (s.setAgu x).txe = s.txe := rfl
@[simp] theorem State.setAgu_ota (s : State) (x : Agu) : (s.setAgu x).ota = s.ota := rfl
@[simp] theorem State.setAgu_tbi (s : State) (x : Agu) : (s.setAgu x).tbi = s.tbi := rfl
@[simp] theorem State.setAgu_ports (s : State) (x : Agu) : (s.setAgu x).ports = s.ports := rfl
@[simp] theorem State.setAgu_resetLow (s : State) (x : Agu) : (s.setAgu x).resetLow = s.resetLow := rfl
@[simp] theorem State.setAgu_sample (s : State) (x : Agu) : (s.setAgu x).sample = s.sample := rfl
@[simp] theorem State.setAgu_pending (s : State) (x : Agu) : (s.setAgu x).pending = s.pending := rfl
@[simp] theorem State.setAgu_port (s : State) (x : Agu) (q : HostId) : (s.setAgu x).port q = s.port q := rfl

/-! ## State.setRgm -/

@[simp] theorem State.setRgm_ctm (s : State) (x : Rgm) : (s.setRgm x).ctm = s.ctm := rfl
@[simp] theorem State.setRgm_wtu (s : State) (x : Rgm) : (s.setRgm x).wtu = s.wtu := rfl
@[simp] theorem State.setRgm_agu (s : State) (x : Rgm) : (s.setRgm x).agu = s.agu := rfl
@[simp] theorem State.setRgm_rgm (s : State) (x : Rgm) : (s.setRgm x).rgm = x := rfl
@[simp] theorem State.setRgm_txe (s : State) (x : Rgm) : (s.setRgm x).txe = s.txe := rfl
@[simp] theorem State.setRgm_ota (s : State) (x : Rgm) : (s.setRgm x).ota = s.ota := rfl
@[simp] theorem State.setRgm_tbi (s : State) (x : Rgm) : (s.setRgm x).tbi = s.tbi := rfl
@[simp] theorem State.setRgm_ports (s : State) (x : Rgm) : (s.setRgm x).ports = s.ports := rfl
@[simp] theorem State.setRgm_resetLow (s : State) (x : Rgm) : (s.setRgm x).resetLow = s.resetLow := rfl
@[simp] theorem State.setRgm_sample (s : State) (x : Rgm) : (s.setRgm x).sample = s.sample := rfl
@[simp] theorem State.setRgm_pending (s : State) (x : Rgm) : (s.setRgm x).pending = s.pending := rfl
@[simp] theorem State.setRgm_port (s : State) (x : Rgm) (q : HostId) : (s.setRgm x).port q = s.port q := rfl
@[simp] theorem State.setRgm_isMember (s : State) (x : Rgm) (q : HostId) : (s.setRgm x).isMember q = s.isMember q := rfl

/-! ## State.setTxe -/

@[simp] theorem State.setTxe_ctm (s : State) (x : Txe) : (s.setTxe x).ctm = s.ctm := rfl
@[simp] theorem State.setTxe_wtu (s : State) (x : Txe) : (s.setTxe x).wtu = s.wtu := rfl
@[simp] theorem State.setTxe_agu (s : State) (x : Txe) : (s.setTxe x).agu = s.agu := rfl
@[simp] theorem State.setTxe_rgm (s : State) (x : Txe) : (s.setTxe x).rgm = s.rgm := rfl
@[simp] theorem State.setTxe_txe (s : State) (x : Txe) : (s.setTxe x).txe = x := rfl
@[simp] theorem State.setTxe_ota (s : State) (x : Txe) : (s.setTxe x).ota = s.ota := rfl
@[simp] theorem State.setTxe_tbi (s : State) (x : Txe) : (s.setTxe x).tbi = s.tbi := rfl
@[simp] theorem State.setTxe_ports (s : State) (x : Txe) : (s.setTxe x).ports = s.ports := rfl
@[simp] theorem State.setTxe_resetLow (s : State) (x : Txe) : (s.setTxe x).resetLow = s.resetLow := rfl
@[simp] theorem State.setTxe_sample (s : State) (x : Txe) : (s.setTxe x).sample = s.sample := rfl
@[simp] theorem State.setTxe_pending (s : State) (x : Txe) : (s.setTxe x).pending = s.pending := rfl
@[simp] theorem State.setTxe_port (s : State) (x : Txe) (q : HostId) : (s.setTxe x).port q = s.port q := rfl
@[simp] theorem State.setTxe_isMember (s : State) (x : Txe) (q : HostId) : (s.setTxe x).isMember q = s.isMember q := rfl

/-! ## State.setOta -/

@[simp] theorem State.setOta_ctm (s : State) (x : Ota) : (s.setOta x).ctm = s.ctm := rfl
@[simp] theorem State.setOta_wtu (s : State) (x : Ota) : (s.setOta x).wtu = s.wtu := rfl
@[simp] theorem State.setOta_agu (s : State) (x : Ota) : (s.setOta x).agu = s.agu := rfl
@[simp] theorem State.setOta_rgm (s : State) (x : Ota) : (s.setOta x).rgm = s.rgm := rfl
@[simp] theorem State.setOta_txe (s : State) (x : Ota) : (s.setOta x).txe = s.txe := rfl
@[simp] theorem State.setOta_ota (s : State) (x : Ota) : (s.setOta x).ota = x := rfl
@[simp] theorem State.setOta_tbi (s : State) (x : Ota) : (s.setOta x).tbi = s.tbi := rfl
@[simp] theorem State.setOta_ports (s : State) (x : Ota) : (s.setOta x).ports = s.ports := rfl
@[simp] theorem State.setOta_resetLow (s : State) (x : Ota) : (s.setOta x).resetLow = s.resetLow := rfl
@[simp] theorem State.setOta_sample (s : State) (x : Ota) : (s.setOta x).sample = s.sample := rfl
@[simp] theorem State.setOta_pending (s : State) (x : Ota) : (s.setOta x).pending = s.pending := rfl
@[simp] theorem State.setOta_port (s : State) (x : Ota) (q : HostId) : (s.setOta x).port q = s.port q := rfl
@[simp] theorem State.setOta_isMember (s : State) (x : Ota) (q : HostId) : (s.setOta x).isMember q = s.isMember q := rfl

/-! ## State.setTbi -/

@[simp] theorem State.setTbi_ctm (s : State) (x : Tbi) : (s.setTbi x).ctm = s.ctm := rfl
@[simp] theorem State.setTbi_wtu (s : State) (x : Tbi) : (s.setTbi x).wtu = s.wtu := rfl
@[simp] theorem State.setTbi_agu (s : State) (x : Tbi) : (s.setTbi x).agu = s.agu := rfl
@[simp] theorem State.setTbi_rgm (s : State) (x : Tbi) : (s.setTbi x).rgm = s.rgm := rfl
@[simp] theorem State.setTbi_txe (s : State) (x : Tbi) : (s.setTbi x).txe = s.txe := rfl
@[simp] theorem State.setTbi_ota (s : State) (x : Tbi) : (s.setTbi x).ota = s.ota := rfl
@[simp] theorem State.setTbi_tbi (s : State) (x : Tbi) : (s.setTbi x).tbi = x := rfl
@[simp] theorem State.setTbi_ports (s : State) (x : Tbi) : (s.setTbi x).ports = s.ports := rfl
@[simp] theorem State.setTbi_resetLow (s : State) (x : Tbi) : (s.setTbi x).resetLow = s.resetLow := rfl
@[simp] theorem State.setTbi_sample (s : State) (x : Tbi) : (s.setTbi x).sample = s.sample := rfl
@[simp] theorem State.setTbi_pending (s : State) (x : Tbi) : (s.setTbi x).pending = s.pending := rfl
@[simp] theorem State.setTbi_port (s : State) (x : Tbi) (q : HostId) : (s.setTbi x).port q = s.port q := rfl
@[simp] theorem State.setTbi_isMember (s : State) (x : Tbi) (q : HostId) : (s.setTbi x).isMember q = s.isMember q := rfl

/-! ## State.setPorts -/

@[simp] theorem State.setPorts_ctm (s : State) (x : Vector Port 4) : (s.setPorts x).ctm = s.ctm := rfl
@[simp] theorem State.setPorts_wtu (s : State) (x : Vector Port 4) : (s.setPorts x).wtu = s.wtu := rfl
@[simp] theorem State.setPorts_agu (s : State) (x : Vector Port 4) : (s.setPorts x).agu = s.agu := rfl
@[simp] theorem State.setPorts_rgm (s : State) (x : Vector Port 4) : (s.setPorts x).rgm = s.rgm := rfl
@[simp] theorem State.setPorts_txe (s : State) (x : Vector Port 4) : (s.setPorts x).txe = s.txe := rfl
@[simp] theorem State.setPorts_ota (s : State) (x : Vector Port 4) : (s.setPorts x).ota = s.ota := rfl
@[simp] theorem State.setPorts_tbi (s : State) (x : Vector Port 4) : (s.setPorts x).tbi = s.tbi := rfl
@[simp] theorem State.setPorts_ports (s : State) (x : Vector Port 4) : (s.setPorts x).ports = x := rfl
@[simp] theorem State.setPorts_resetLow (s : State) (x : Vector Port 4) : (s.setPorts x).resetLow = s.resetLow := rfl
@[simp] theorem State.setPorts_sample (s : State) (x : Vector Port 4) : (s.setPorts x).sample = s.sample := rfl
@[simp] theorem State.setPorts_pending (s : State) (x : Vector Port 4) : (s.setPorts x).pending = s.pending := rfl
@[simp] theorem State.setPorts_isMember (s : State) (x : Vector Port 4) (q : HostId) : (s.setPorts x).isMember q = s.isMember q := rfl

/-! ## State.setSample -/

@[simp] theorem State.setSample_ctm (s : State) (x : Nat) : (s.setSample x).ctm = s.ctm := rfl
@[simp] theorem State.setSample_wtu (s : State) (x : Nat) : (s.setSample x).wtu = s.wtu := rfl
@[simp] theorem State.setSample_agu (s : State) (x : Nat) : (s.setSample x).agu = s.agu := rfl
@[simp] theorem State.setSample_rgm (s : State) (x : Nat) : (s.setSample x).rgm = s.rgm := rfl
@[simp] theorem State.setSample_txe (s : State) (x : Nat) : (s.setSample x).txe = s.txe := rfl
@[simp] theorem State.setSample_ota (s : State) (x : Nat) : (s.setSample x).ota = s.ota := rfl
@[simp] theorem State.setSample_tbi (s : State) (x : Nat) : (s.setSample x).tbi = s.tbi := rfl
@[simp] theorem State.setSample_ports (s : State) (x : Nat) : (s.setSample x).ports = s.ports := rfl
@[simp] theorem State.setSample_resetLow (s : State) (x : Nat) : (s.setSample x).resetLow = s.resetLow := rfl
@[simp] theorem State.setSample_sample (s : State) (x : Nat) : (s.setSample x).sample = x := rfl
@[simp] theorem State.setSample_pending (s : State) (x : Nat) : (s.setSample x).pending = s.pending := rfl
@[simp] theorem State.setSample_port (s : State) (x : Nat) (q : HostId) : (s.setSample x).port q = s.port q := rfl
@[simp] theorem State.setSample_isMember (s : State) (x : Nat) (q : HostId) : (s.setSample x).isMember q = s.isMember q := rfl

/-! ## State.modPort and State.nextSample -/

@[simp] theorem State.modPort_ctm (s : State) (p : HostId) (f : Port → Port) : (s.modPort p f).ctm = s.ctm := rfl
@[simp] theorem State.modPort_wtu (s : State) (p : HostId) (f : Port → Port) : (s.modPort p f).wtu = s.wtu := rfl
@[simp] theorem State.modPort_agu (s : State) (p : HostId) (f : Port → Port) : (s.modPort p f).agu = s.agu := rfl
@[simp] theorem State.modPort_rgm (s : State) (p : HostId) (f : Port → Port) : (s.modPort p f).rgm = s.rgm := rfl
@[simp] theorem State.modPort_txe (s : State) (p : HostId) (f : Port → Port) : (s.modPort p f).txe = s.txe := rfl
@[simp] theorem State.modPort_ota (s : State) (p : HostId) (f : Port → Port) : (s.modPort p f).ota = s.ota := rfl
@[simp] theorem State.modPort_tbi (s : State) (p : HostId) (f : Port → Port) : (s.modPort p f).tbi = s.tbi := rfl
@[simp] theorem State.modPort_resetLow (s : State) (p : HostId) (f : Port → Port) : (s.modPort p f).resetLow = s.resetLow := rfl
@[simp] theorem State.modPort_sample (s : State) (p : HostId) (f : Port → Port) : (s.modPort p f).sample = s.sample := rfl
@[simp] theorem State.modPort_pending (s : State) (p : HostId) (f : Port → Port) : (s.modPort p f).pending = s.pending := rfl
@[simp] theorem State.modPort_isMember (s : State) (p : HostId) (f : Port → Port) (q : HostId) :
    (s.modPort p f).isMember q = s.isMember q := rfl
@[simp] theorem State.modPorts_ctm (s : State) (f : HostId → Port → Port) : (s.modPorts f).ctm = s.ctm := rfl
@[simp] theorem State.modPorts_wtu (s : State) (f : HostId → Port → Port) : (s.modPorts f).wtu = s.wtu := rfl
@[simp] theorem State.modPorts_agu (s : State) (f : HostId → Port → Port) : (s.modPorts f).agu = s.agu := rfl
@[simp] theorem State.modPorts_rgm (s : State) (f : HostId → Port → Port) : (s.modPorts f).rgm = s.rgm := rfl
@[simp] theorem State.modPorts_txe (s : State) (f : HostId → Port → Port) : (s.modPorts f).txe = s.txe := rfl
@[simp] theorem State.modPorts_ota (s : State) (f : HostId → Port → Port) : (s.modPorts f).ota = s.ota := rfl
@[simp] theorem State.modPorts_tbi (s : State) (f : HostId → Port → Port) : (s.modPorts f).tbi = s.tbi := rfl
@[simp] theorem State.modPorts_resetLow (s : State) (f : HostId → Port → Port) : (s.modPorts f).resetLow = s.resetLow := rfl
@[simp] theorem State.modPorts_sample (s : State) (f : HostId → Port → Port) : (s.modPorts f).sample = s.sample := rfl
@[simp] theorem State.modPorts_pending (s : State) (f : HostId → Port → Port) : (s.modPorts f).pending = s.pending := rfl
@[simp] theorem State.modPorts_isMember (s : State) (f : HostId → Port → Port) (q : HostId) :
    (s.modPorts f).isMember q = s.isMember q := rfl
@[simp] theorem State.nextSample_ctm (s : State) : s.nextSample.ctm = s.ctm := rfl
@[simp] theorem State.nextSample_wtu (s : State) : s.nextSample.wtu = s.wtu := rfl
@[simp] theorem State.nextSample_agu (s : State) : s.nextSample.agu = s.agu := rfl
@[simp] theorem State.nextSample_rgm (s : State) : s.nextSample.rgm = s.rgm := rfl
@[simp] theorem State.nextSample_txe (s : State) : s.nextSample.txe = s.txe := rfl
@[simp] theorem State.nextSample_ota (s : State) : s.nextSample.ota = s.ota := rfl
@[simp] theorem State.nextSample_tbi (s : State) : s.nextSample.tbi = s.tbi := rfl
@[simp] theorem State.nextSample_ports (s : State) : s.nextSample.ports = s.ports := rfl
@[simp] theorem State.nextSample_resetLow (s : State) : s.nextSample.resetLow = s.resetLow := rfl
@[simp] theorem State.nextSample_sample (s : State) : s.nextSample.sample = s.sample + 1 := rfl
@[simp] theorem State.nextSample_pending (s : State) : s.nextSample.pending = s.pending := rfl
@[simp] theorem State.nextSample_port (s : State) (q : HostId) : s.nextSample.port q = s.port q := rfl

end Sys2Proof.Machine
end

