-- ==== Sys2Proof/Laws/Ports.lean ====
section
/-!
SUPPORT. What each shared operation over the ports does, said once: the ports it leaves, and that it leaves everything else.
-/
namespace Sys2Proof.Machine

/-! ## One port, every port -/

/-- The ports after one port is changed. -/
theorem State.modPort_port (s : State) (p q : HostId) (f : Port → Port) :
    (s.modPort p f).port q = if q = p then f (s.port p) else s.port q := by
  simp [State.modPort, State.port, pick_put]

@[simp] theorem State.modPort_port_same (s : State) (p : HostId) (f : Port → Port) :
    (s.modPort p f).port p = f (s.port p) := by simp [State.modPort_port]

theorem State.modPort_port_ne (s : State) {p q : HostId} (f : Port → Port) (h : q ≠ p) :
    (s.modPort p f).port q = s.port q := by simp [State.modPort_port, h]

/-- States whose ports agree one by one have the same ports. -/
theorem State.ports_ext {s t : State} (h : ∀ q, t.port q = s.port q) : t.ports = s.ports := vector_ext h

/-- The ports after every port is changed. -/
theorem State.modPorts_port (s : State) (f : HostId → Port → Port) (q : HostId) :
    (s.modPorts f).port q = f q (s.port q) := by
  fin_cases q <;> simp [State.modPorts, allHosts, State.modPort_port]

/-- Only the ports change. -/
theorem State.modPorts_frame (s : State) (f : HostId → Port → Port) :
    s.modPorts f = { s with ports := (s.modPorts f).ports } := rfl

/-! ## Events -/

/-- A host's port after one event to it. -/
theorem post_port (h : HostId) (e : Event) (s : State) (q : HostId) :
    (post h e s).port q = if q = h then s.told e h else s.port q := by
  unfold post State.told
  split
  · exact s.modPort_port h q _
  · split <;> simp_all

/-- Only the ports change. -/
theorem post_frame (h : HostId) (e : Event) (s : State) : post h e s = { s with ports := (post h e s).ports } := by
  unfold post; split <;> rfl

@[simp] theorem post_isMember (h : HostId) (e : Event) (s : State) (q : HostId) :
    (post h e s).isMember q = s.isMember q := by rw [post_frame]; rfl

/-- Every port after one event to every member. -/
theorem postAll_port (e : Event) (s : State) (q : HostId) : (postAll e s).port q = s.told e q := by
  fin_cases q <;> simp [postAll, allHosts, post_port, State.told]

/-- Only the ports change. -/
theorem postAll_frame (e : Event) (s : State) : postAll e s = { s with ports := (postAll e s).ports } := by
  simp only [postAll, allHosts, List.foldl]
  rw [post_frame, post_frame 2, post_frame 1, post_frame 0]

@[simp] theorem postAll_isMember (e : Event) (s : State) (q : HostId) : (postAll e s).isMember q = s.isMember q := by
  rw [postAll_frame]; rfl

theorem postTo_step_frame (hosts : HostSet) (e : Event) (s : State) (h : HostId) :
    (if hosts.has h then post h e s else s) = { s with ports := (if hosts.has h then post h e s else s).ports } := by
  split
  · exact post_frame h e s
  · rfl

/-- Every port after one event to the members of a set. -/
theorem postTo_port (hosts : HostSet) (e : Event) (s : State) (q : HostId) :
    (postTo hosts e s).port q = if hosts.has q then s.told e q else s.port q := by
  have key : ∀ (t : State) (h k : HostId), (if hosts.has h then post h e t else t).port k =
      if k = h ∧ hosts.has h = true then t.told e h else t.port k := by
    intro t h k
    split <;> simp_all [post_port]
  have mem : ∀ (t : State) (h k : HostId), (if hosts.has h then post h e t else t).isMember k = t.isMember k := by
    intro t h k
    split <;> simp
  fin_cases q <;> simp [postTo, allHosts, key, State.told, mem]

/-- Only the ports change. -/
theorem postTo_frame (hosts : HostSet) (e : Event) (s : State) :
    postTo hosts e s = { s with ports := (postTo hosts e s).ports } := by
  simp only [postTo, allHosts, List.foldl]
  rw [postTo_step_frame hosts e _ 3, postTo_step_frame hosts e _ 2, postTo_step_frame hosts e _ 1,
    postTo_step_frame hosts e s 0]

/-! ## Commands and answers -/

/-- A ready port is open and not engaged. -/
theorem State.ready_iff (s : State) (p : HostId) : s.ready p ↔ s.open p = true ∧ (s.port p).engaged = false := by
  unfold State.ready State.open Port.engaged
  cases (s.port p).state <;> simp [and_assoc]

/-- A ready port takes the command. -/
theorem hostCommand_ready {s : State} {p : HostId} (k : Cmd) (h : s.ready p) :
    hostCommand p k s = takeCommand p k s := by
  have := (s.ready_iff p).1 h
  simp [hostCommand, this]

/-- A port that takes no access ignores the write. -/
theorem hostCommand_closed {s : State} {p : HostId} (k : Cmd) (h : s.open p = false) : hostCommand p k s = s := by
  simp [hostCommand, h]

/-- A BUSY port, or one whose discard mark is SET, ignores and flags the write (R153). -/
theorem hostCommand_engaged {s : State} {p : HostId} (k : Cmd) (ho : s.open p = true) (h : (s.port p).engaged = true) :
    hostCommand p k s = s.modPort p Port.flagBusy := by simp [hostCommand, ho, h]

/-- The answer to the command just issued, at a port whose discard mark is CLEAR. -/
theorem Port.issue_answer {q : Port} (k : Cmd) (r : Reply) (h : q.discard = false) :
    (q.issue k.code).answer r = q.doneWith k r.status r.words := by
  simp [Port.issue, Port.answer, Port.doneWith, h]

/-- Issuing a command changes nothing but its port. -/
theorem issue_frame (p : HostId) (f : Port → Port) (s : State) :
    s.modPort p f = { s with ports := (s.modPort p f).ports } := rfl

end Sys2Proof.Machine
end

