-- ==== Sys2Proof/Laws/Commands.lean ====
section
/-!
SUPPORT. What a command at a ready port comes to, by its unit's answer: a refusal or a query touches the issuing port alone.
-/
namespace Sys2Proof.Machine

/-- The state a unit works on: the port has taken the command. -/
def State.issued (s : State) (p : HostId) (k : Cmd) : State := s.modPort p (Port.issue k.code)

/-- The words the unit works from. -/
def State.words (s : State) (p : HostId) (k : Cmd) : Captured := (s.port p).capture k.code

/-- A parameter of the captured command is the parameter word of the port. -/
@[simp] theorem State.words_p (s : State) (p : HostId) (k : Cmd) (i : Fin 8) : (s.words p k).p i = s.param p i := rfl

theorem State.words_segs (s : State) (p : HostId) (k : Cmd) : (s.words p k).segs = (s.port p).segArea := rfl

/-- A ready port's command: the unit's answer is delivered to the port. -/
theorem hostCommand_eq {s : State} {p : HostId} (k : Cmd) (h : s.ready p) :
    hostCommand p k s = deliver p (unitCommand k p (s.words p k) (s.issued p k)) := hostCommand_ready k h

/-- The port of an issued command. -/
theorem State.issued_port (s : State) (p q : HostId) (k : Cmd) :
    (s.issued p k).port q = if q = p then (s.port p).issue k.code else s.port q := State.modPort_port s p q _

/-- Only the ports differ. -/
theorem State.issued_frame (s : State) (p : HostId) (k : Cmd) : s.issued p k = { s with ports := (s.issued p k).ports } := rfl

/-- A unit that answers and leaves its state as it was: the whole effect is the answer in the issuing port. Every refusal and every
query but QUERY_WINDOW is of this kind (R154). -/
theorem hostCommand_onlyAnswers {s : State} {p : HostId} {k : Cmd} {st : Status} {ws : List Word} (h : s.ready p)
    (hu : unitCommand k p (s.words p k) (s.issued p k) = (s.issued p k, some ⟨st, ws⟩)) :
    onlyAnswers p k st ws s (hostCommand p k s) := by
  rw [hostCommand_eq k h, hu]
  have hd : (s.port p).discard = false := h.2.2.2
  refine ⟨rfl, fun q hq => ?_, ?_⟩
  · show (answer p _ (s.issued p k)).port q = _
    unfold answer
    rw [State.modPort_port_ne _ _ hq, State.issued_port, if_neg hq]
  · show (answer p _ (s.issued p k)).port p = _
    unfold answer
    rw [State.modPort_port, if_pos rfl, State.issued_port, if_pos rfl, Port.issue_answer k _ hd]

end Sys2Proof.Machine
end

