-- ==== Sys2Proof/Laws/Frame.lean ====
section
/-!
SUPPORT. What the work of the units leaves alone: no operation of WTU, RGM, TBI, OTA or the engine changes the Cycle Timer, the
Agreement Unit, the level of RST_N or the queue of commands.
-/
namespace Sys2Proof.Machine

/-- The parts of State that the work of the other units leaves alone. -/
def State.still (s : State) : Ctm × Agu × Bool × List Instr := (s.ctm, s.agu, s.resetLow, s.pending)

theorem State.ctm_of_still {s t : State} (h : t.still = s.still) : t.ctm = s.ctm := congrArg Prod.fst h
theorem State.agu_of_still {s t : State} (h : t.still = s.still) : t.agu = s.agu := congrArg (fun x => x.2.1) h
theorem State.resetLow_of_still {s t : State} (h : t.still = s.still) : t.resetLow = s.resetLow := congrArg (fun x => x.2.2.1) h
theorem State.pending_of_still {s t : State} (h : t.still = s.still) : t.pending = s.pending := congrArg (fun x => x.2.2.2) h

@[simp] theorem State.setWtu_still (s : State) (x : Wtu) : (s.setWtu x).still = s.still := rfl
@[simp] theorem State.setRgm_still (s : State) (x : Rgm) : (s.setRgm x).still = s.still := rfl
@[simp] theorem State.setTxe_still (s : State) (x : Txe) : (s.setTxe x).still = s.still := rfl
@[simp] theorem State.setOta_still (s : State) (x : Ota) : (s.setOta x).still = s.still := rfl
@[simp] theorem State.setTbi_still (s : State) (x : Tbi) : (s.setTbi x).still = s.still := rfl
@[simp] theorem State.setPorts_still (s : State) (x : Vector Port 4) : (s.setPorts x).still = s.still := rfl
@[simp] theorem State.setSample_still (s : State) (x : Nat) : (s.setSample x).still = s.still := rfl
@[simp] theorem State.nextSample_still (s : State) : s.nextSample.still = s.still := rfl
@[simp] theorem State.modPort_still (s : State) (p : HostId) (f : Port → Port) : (s.modPort p f).still = s.still := rfl
@[simp] theorem State.modPorts_still (s : State) (f : HostId → Port → Port) : (s.modPorts f).still = s.still := rfl
@[simp] theorem State.setRegion_still (s : State) (i : RegionId) (r : Option Region) : (s.setRegion i r).still = s.still := rfl
@[simp] theorem post_still (h : HostId) (e : Event) (s : State) : (post h e s).still = s.still := by rw [post_frame]; rfl
@[simp] theorem postAll_still (e : Event) (s : State) : (postAll e s).still = s.still := by rw [postAll_frame]; rfl
@[simp] theorem postTo_still (hs : HostSet) (e : Event) (s : State) : (postTo hs e s).still = s.still := by
  rw [postTo_frame]; rfl

@[simp] theorem refuse_fst (st : Status) (s : State) : (refuse st s).1 = s := rfl
@[simp] theorem accept_fst (s : State) (ws : List Word) : (accept s ws).1 = s := rfl

/-- A fold of operations that leave them alone leaves them alone. -/
theorem foldl_still {α : Type} {f : State → α → State} (h : ∀ s x, (f s x).still = s.still) :
    ∀ (l : List α) (s : State), (l.foldl f s).still = s.still
  | [], _ => rfl
  | x :: l, s => by rw [List.foldl_cons, foldl_still h l, h]

@[simp] theorem freeRegion_still (i : RegionId) (r : Region) (k : RetireCause) (s : State) :
    (freeRegion i r k s).still = s.still := by
  simp [freeRegion]

@[simp] theorem testFree_still (i : RegionId) (s : State) :
    (testFree i s).still = s.still := by
  unfold testFree
  (repeat' split) <;> simp

@[simp] theorem reportUnnamed_still (u : Wtu) (s : State) :
    (reportUnnamed u s).still = s.still := by
  exact foldl_still (fun s i => by split <;> simp) _ _

@[simp] theorem State.modRegion_still (i : RegionId) (f : Region → Region) (s : State) :
    (s.modRegion i f).still = s.still := by
  unfold State.modRegion
  (repeat' split) <;> simp

@[simp] theorem State.setReadHandle_still (h : HostId) (a : Fin 4) (x : Option Handle) (b : Option Binding) (s : State) :
    (s.setReadHandle h a x b).still = s.still := by
  simp [State.setReadHandle]

@[simp] theorem State.setWriteHandle_still (h : HostId) (x : Option Handle) (b : Option Binding) (s : State) :
    (s.setWriteHandle h x b).still = s.still := by
  simp [State.setWriteHandle]

@[simp] theorem unbindRead_still (h : HostId) (a : Fin 4) (s : State) :
    (unbindRead h a s).still = s.still := by
  unfold unbindRead
  (repeat' split) <;> simp

@[simp] theorem unbindWrite_still (h : HostId) (s : State) :
    (unbindWrite h s).still = s.still := by
  unfold unbindWrite
  (repeat' split) <;> simp

@[simp] theorem defineRegion_still (h : HostId) (c : Captured) (s : State) : ((defineRegion h c s).1).still = s.still := by
  unfold defineRegion
  (repeat' split) <;> simp

@[simp] theorem deleteRegion_still (h : HostId) (c : Captured) (s : State) : ((deleteRegion h c s).1).still = s.still := by
  unfold deleteRegion
  (repeat' split) <;> simp

@[simp] theorem queryRegion_still (c : Captured) (s : State) : ((queryRegion c s).1).still = s.still := by
  unfold queryRegion
  (repeat' split) <;> simp

@[simp] theorem openRead_still (h : HostId) (c : Captured) (s : State) : ((openRead h c s).1).still = s.still := by
  unfold openRead
  (repeat' split) <;> simp

@[simp] theorem closeRead_still (h : HostId) (c : Captured) (s : State) : ((closeRead h c s).1).still = s.still := by
  unfold closeRead
  (repeat' split) <;> simp

@[simp] theorem openWrite_still (h : HostId) (c : Captured) (s : State) : ((openWrite h c s).1).still = s.still := by
  unfold openWrite
  (repeat' split) <;> simp

@[simp] theorem publish_still (h : HostId) (s : State) : ((publish h s).1).still = s.still := by
  unfold publish
  (repeat' split) <;> simp

@[simp] theorem abandonWrite_still (h : HostId) (s : State) : ((abandonWrite h s).1).still = s.still := by
  unfold abandonWrite
  (repeat' split) <;> simp

@[simp] theorem dropClaim_still (s : State) :
    (dropClaim s).still = s.still := by
  simp [dropClaim]

@[simp] theorem currentGeneration_still (i : RegionId) (s : State) : ((currentGeneration i s).2).still = s.still := by
  unfold currentGeneration
  (repeat' split) <;> simp

@[simp] theorem fillComplete_still (s : State) : ((fillComplete s).2).still = s.still := by
  unfold fillComplete
  (repeat' split) <;> simp

@[simp] theorem fillDiscard_still (s : State) : ((fillDiscard s).2).still = s.still := by
  unfold fillDiscard
  (repeat' split) <;> simp

@[simp] theorem drainRelease_still (s : State) :
    (drainRelease s).still = s.still := by
  unfold drainRelease
  (repeat' split) <;> simp

@[simp] theorem bankWrite_still (i : RegionId) (b w : Nat) (v : Word) (s : State) :
    (bankWrite i b w v s).still = s.still := by
  unfold bankWrite
  (repeat' split) <;> simp

@[simp] theorem retireOwned_still (h : HostId) (i : RegionId) (s : State) :
    (retireOwned h i s).still = s.still := by
  unfold retireOwned
  (repeat' split) <;> simp

@[simp] theorem rgmLeave_still (h : HostId) (s : State) :
    (rgmLeave h s).still = s.still := by
  unfold rgmLeave
  dsimp only
  rw [foldl_still (fun s i => testFree_still i s), foldl_still (fun s i => retireOwned_still h i s), unbindWrite_still,
    foldl_still (fun s a => unbindRead_still h a s)]

@[simp] theorem postEditsApplied_still (es : List Edit) (w : Word) (s : State) :
    (postEditsApplied es w s).still = s.still := by
  exact foldl_still (fun s h => by dsimp only; split <;> simp) _ _

@[simp] theorem wtuReact_still (s : State) :
    (wtuReact s).still = s.still := by
  simp [wtuReact]

@[simp] theorem wtuCatchUp_still (s : State) :
    (wtuCatchUp s).still = s.still := by
  unfold wtuCatchUp
  (repeat' split) <;> simp

@[simp] theorem dispose_still (e : Edit) (s : State) : ((dispose e s).1).still = s.still := by
  unfold dispose
  (repeat' split) <;> simp

@[simp] theorem stageAddChecked_still (h : HostId) (c : Captured) (s : State) : ((stageAddChecked h c s).1).still = s.still := by
  unfold stageAddChecked
  (repeat' split) <;> simp

@[simp] theorem stageAdd_still (h : HostId) (c : Captured) (s : State) : ((stageAdd h c s).1).still = s.still := by
  simp [stageAdd]

@[simp] theorem stageChangeChecked_still (h : HostId) (c : Captured) (s : State) : ((stageChangeChecked h c s).1).still = s.still := by
  unfold stageChangeChecked
  (repeat' split) <;> simp

@[simp] theorem stageChange_still (h : HostId) (c : Captured) (s : State) : ((stageChange h c s).1).still = s.still := by
  simp [stageChange]

@[simp] theorem stageRemoveChecked_still (h : HostId) (c : Captured) (s : State) : ((stageRemoveChecked h c s).1).still = s.still := by
  unfold stageRemoveChecked
  (repeat' split) <;> simp

@[simp] theorem stageRemove_still (h : HostId) (c : Captured) (s : State) : ((stageRemove h c s).1).still = s.still := by
  simp [stageRemove]

@[simp] theorem withdrawEditChecked_still (h : HostId) (c : Captured) (s : State) : ((withdrawEditChecked h c s).1).still = s.still := by
  unfold withdrawEditChecked
  (repeat' split) <;> simp

@[simp] theorem withdrawEdit_still (h : HostId) (c : Captured) (s : State) : ((withdrawEdit h c s).1).still = s.still := by
  simp [withdrawEdit]

@[simp] theorem queryWindow_still (h : HostId) (c : Captured) (s : State) : ((queryWindow h c s).1).still = s.still := by
  unfold queryWindow
  (repeat' split) <;> simp

@[simp] theorem wtuLeave_still (h : HostId) (s : State) :
    (wtuLeave h s).still = s.still := by
  unfold wtuLeave
  (repeat' split) <;> simp

@[simp] theorem changeTarget_still (t : TargetId) (n : TargetState) (c : TargetCause) (s : State) :
    (changeTarget t n c s).still = s.still := by
  simp [changeTarget]

@[simp] theorem queueProbe_still (t : TargetId) (s : State) :
    (queueProbe t s).still = s.still := by
  unfold queueProbe
  (repeat' split) <;> simp

@[simp] theorem dropProbe_still (t : TargetId) (s : State) :
    (dropProbe t s).still = s.still := by
  simp [dropProbe]

@[simp] theorem takeSettings_still (ts : TargetSettings) (s : State) :
    (takeSettings ts s).still = s.still := by
  unfold takeSettings
  dsimp only
  (repeat' split) <;> simp

@[simp] theorem beginAccess_still (q : AccessReq) (s : State) :
    (beginAccess q s).still = s.still := by
  simp [beginAccess]

@[simp] theorem askAccess_still (q : AccessReq) (s : State) :
    (askAccess q s).still = s.still := by
  unfold askAccess
  (repeat' split) <;> simp

@[simp] theorem tbiAccessEnd_still (a : Access) (s : State) :
    (tbiAccessEnd a s).still = s.still := by
  unfold tbiAccessEnd
  dsimp only
  (repeat' split) <;> simp

@[simp] theorem readyTimeout_still (s : State) :
    (readyTimeout s).still = s.still := by
  unfold readyTimeout
  (repeat' split) <;> simp

@[simp] theorem queryTarget_still (c : Captured) (s : State) : ((queryTarget c s).1).still = s.still := by
  unfold queryTarget
  (repeat' split) <;> simp

@[simp] theorem engineRests_still (s : State) :
    (engineRests s).still = s.still := by
  simp [engineRests]

@[simp] theorem releaseClaim_still (st : WindowStatus) (c : RunCopy) (s : State) : ((releaseClaim st c s).2).still = s.still := by
  unfold releaseClaim
  (repeat' split) <;> simp

@[simp] theorem reportRun_still (st : WindowStatus) (c : RunCopy) (g : BitVec 32) (s : State) :
    (reportRun st c g s).still = s.still := by
  unfold reportRun
  dsimp only
  (repeat' split) <;> simp

@[simp] theorem endReports_still (st : WindowStatus) (c : RunCopy) (s : State) :
    (endReports st c s).still = s.still := by
  simp [endReports]

@[simp] theorem reportUnclaimed_still (st : WindowStatus) (c : RunCopy) (s : State) :
    (reportUnclaimed st c s).still = s.still := by
  simp [reportUnclaimed]

@[simp] theorem failStart_still (st : WindowStatus) (c : RunCopy) (s : State) :
    (failStart st c s).still = s.still := by
  simp [failStart]

@[simp] theorem firstWord_still (c : RunCopy) (s : State) :
    (firstWord c s).still = s.still := by
  unfold firstWord
  (repeat' split) <;> simp

theorem fillClaim_still {i : RegionId} {s t : State} {b : Nat} (h : fillClaim i s = some (b, t)) : t.still = s.still := by
  unfold fillClaim at h
  repeat' split at h
  all_goals simp at h
  obtain ⟨-, rfl⟩ := h; rfl

theorem drainClaim_still {i : RegionId} {s t : State} {b : Nat} {g : BitVec 32} (h : drainClaim i s = some (b, g, t)) :
    t.still = s.still := by
  unfold drainClaim at h
  repeat' split at h
  all_goals simp at h
  obtain ⟨-, -, rfl⟩ := h; rfl

@[simp] theorem startChecks_still (c : RunCopy) (s : State) :
    (startChecks c s).still = s.still := by
  unfold startChecks
  split
  · simp
  · simp
  · simp
  · split
    · split
      · simp
      · simp [fillClaim_still ‹_›]
    · split
      · simp
      · simp [drainClaim_still ‹_›]

@[simp] theorem startRun_still (c : RunCopy) (s : State) :
    (startRun c s).still = s.still := by
  unfold startRun
  (repeat' split) <;> simp

@[simp] theorem listRun_still (w : Window) (s : State) :
    (listRun w s).still = s.still := by
  simp [listRun]

@[simp] theorem announceToIdle_still (s : State) :
    (announceToIdle s).still = s.still := by
  unfold announceToIdle
  (repeat' split) <;> simp

@[simp] theorem State.offered_still (s : State) :
    (s.offered).still = s.still := by
  unfold State.offered
  (repeat' split) <;> simp

@[simp] theorem State.setQueue_still (h : HostId) (q : List Request) (s : State) :
    (s.setQueue h q).still = s.still := by
  simp [State.setQueue]

@[simp] theorem engineOpens_still (s : State) :
    (engineOpens s).still = s.still := by
  simp [engineOpens]

@[simp] theorem giveRequest_still (h : HostId) (r : Request) (s : State) :
    (giveRequest h r s).still = s.still := by
  simp [giveRequest]

@[simp] theorem undoRequest_still (h : HostId) (r : Request) (p : HostId) (s : State) :
    (undoRequest h r p s).still = s.still := by
  simp [undoRequest]

@[simp] theorem handRequest_still (h : HostId) (r : Request) (s : State) :
    (handRequest h r s).still = s.still := by
  unfold handRequest
  dsimp only
  (repeat' split) <;> simp

@[simp] theorem giveProbe_still (t : TargetId) (s : State) :
    (giveProbe t s).still = s.still := by
  simp [giveProbe]

@[simp] theorem undoProbe_still (t : TargetId) (s : State) :
    (undoProbe t s).still = s.still := by
  simp [undoProbe]

@[simp] theorem handProbe_still (t : TargetId) (s : State) :
    (handProbe t s).still = s.still := by
  unfold handProbe
  dsimp only
  (repeat' split) <;> simp

@[simp] theorem postRequestDone_still (h : HostId) (r : Request) (st : ReqStatus) (v : Word) (s : State) :
    (postRequestDone h r st v s).still = s.still := by
  simp [postRequestDone]

@[simp] theorem endHead_still (h : HostId) (r : Request) (s : State) :
    (endHead h r s).still = s.still := by
  simp [endHead]

@[simp] theorem skipProbe_still (s : State) :
    (skipProbe s).still = s.still := by
  simp [skipProbe]

@[simp] theorem choiceLoop_still (n : Nat) (s : State) :
    (choiceLoop n s).still = s.still := by
  induction n generalizing s with
  | zero => rfl
  | succ n ih =>
    unfold choiceLoop
    split
    · rfl
    · split
      · simp
      · simp [ih]
    · simp [ih]
    · simp

@[simp] theorem choice_still (s : State) :
    (choice s).still = s.still := by
  unfold choice
  (repeat' split) <;> simp

@[simp] theorem submit_still (h : HostId) (c : Captured) (s : State) : ((submit h c s).1).still = s.still := by
  unfold submit
  dsimp only
  (repeat' split) <;> simp

@[simp] theorem cancel_still (h : HostId) (c : Captured) (s : State) : ((cancel h c s).1).still = s.still := by
  unfold cancel
  (repeat' split) <;> simp

@[simp] theorem queryQueue_still (h : HostId) (s : State) : ((queryQueue h s).1).still = s.still := by
  unfold queryQueue
  (repeat' split) <;> simp

@[simp] theorem otaLeave_still (h : HostId) (s : State) :
    (otaLeave h s).still = s.still := by
  simp [otaLeave]

@[simp] theorem deadlineStep_still (h : HostId) (s : State) :
    (deadlineStep h s).still = s.still := by
  unfold deadlineStep
  rw [foldl_still (fun s r => postRequestDone_still _ _ _ _ s)]
  simp

@[simp] theorem otaReact_still (s : State) :
    (otaReact s).still = s.still := by
  unfold otaReact
  rw [choice_still, foldl_still (fun s h => deadlineStep_still h s)]
  simp

@[simp] theorem expireOne_still (s : State) :
    (expireOne s).still = s.still := by
  unfold expireOne
  dsimp only
  (repeat' split) <;> simp

@[simp] theorem becomeIdle_still (s : State) :
    (becomeIdle s).still = s.still := by
  simp [becomeIdle]

@[simp] theorem storeWord_still (c : RunCopy) (w : Word) (s : State) :
    (storeWord c w s).still = s.still := by
  unfold storeWord
  (repeat' split) <;> simp

@[simp] theorem takeStart_still (c : RunCopy) (s : State) :
    (takeStart c s).still = s.still := by
  simp [takeStart]

@[simp] theorem nextStart_still (s : State) :
    (nextStart s).still = s.still := by
  unfold nextStart
  (repeat' split) <;> simp

@[simp] theorem endWindow_still (st : WindowStatus) (c : RunCopy) (s : State) :
    (endWindow st c s).still = s.still := by
  unfold endWindow
  dsimp only
  (repeat' split) <;> simp

@[simp] theorem windowNext_still (c : RunCopy) (s : State) :
    (windowNext c s).still = s.still := by
  unfold windowNext
  (repeat' split) <;> simp

@[simp] theorem windowAccessEnd_still (c : RunCopy) (b : Bool) (w : Word) (s : State) :
    (windowAccessEnd c b w s).still = s.still := by
  unfold windowAccessEnd
  dsimp only
  (repeat' split) <;> simp

@[simp] theorem closeRequest_still (r : RunningReq) (st : ReqStatus) (s : State) :
    (closeRequest r st s).still = s.still := by
  unfold closeRequest
  (repeat' split) <;> simp

@[simp] theorem endRequest_still (r : RunningReq) (st : ReqStatus) (s : State) :
    (endRequest r st s).still = s.still := by
  simp [endRequest]

@[simp] theorem requestNext_still (r : RunningReq) (s : State) :
    (requestNext r s).still = s.still := by
  unfold requestNext
  (repeat' split) <;> simp

@[simp] theorem storeRequestWord_still (r : RunningReq) (w : Word) (s : State) :
    (storeRequestWord r w s).still = s.still := by
  unfold storeRequestWord
  (repeat' split) <;> simp

@[simp] theorem requestAccessEnd_still (r : RunningReq) (b : Bool) (w : Word) (s : State) :
    (requestAccessEnd r b w s).still = s.still := by
  unfold requestAccessEnd
  dsimp only
  (repeat' split) <;> simp

@[simp] theorem closeProbe_still (s : State) :
    (closeProbe s).still = s.still := by
  simp [closeProbe]

@[simp] theorem returnProbe_still (t : TargetId) (s : State) :
    (returnProbe t s).still = s.still := by
  unfold returnProbe
  (repeat' split) <;> simp

@[simp] theorem withdrawOpen_still (s : State) :
    (withdrawOpen s).still = s.still := by
  unfold withdrawOpen
  (repeat' split) <;> simp

@[simp] theorem displacePending_still (s : State) :
    (displacePending s).still = s.still := by
  unfold displacePending
  (repeat' split) <;> simp

@[simp] theorem holdStart_still (c : RunCopy) (s : State) :
    (holdStart c s).still = s.still := by
  simp [holdStart]

@[simp] theorem engineStart_still (c : RunCopy) (s : State) :
    (engineStart c s).still = s.still := by
  unfold engineStart
  (repeat' split) <;> simp

@[simp] theorem announceStart_still (s : State) :
    (announceStart s).still = s.still := by
  unfold announceStart
  (repeat' split) <;> simp

@[simp] theorem takeEndTime_still (s : State) :
    (takeEndTime s).still = s.still := by
  unfold takeEndTime
  (repeat' split) <;> simp

@[simp] theorem takeOpenEnd_still (s : State) :
    (takeOpenEnd s).still = s.still := by
  unfold takeOpenEnd
  (repeat' split) <;> simp

@[simp] theorem accessEnds_still (w : Word) (s : State) :
    (accessEnds w s).still = s.still := by
  unfold accessEnds
  dsimp only
  (repeat' split) <;> simp

@[simp] theorem clearHold_still (s : State) :
    (clearHold s).still = s.still := by
  unfold clearHold
  dsimp only
  (repeat' split) <;> simp

@[simp] theorem queryTimebase_still (s : State) : ((queryTimebase s).1).still = s.still := by
  simp [queryTimebase]

@[simp] theorem targetRestore_still (h : HostId) (c : Captured) (s : State) : ((targetRestore h c s).1).still = s.still := by
  unfold targetRestore
  (repeat' split) <;> simp

@[simp] theorem portLeave_still (h : HostId) (s : State) :
    (portLeave h s).still = s.still := by
  simp [portLeave]

@[simp] theorem ctmLeave_still (h : HostId) (s : State) :
    (ctmLeave h s).still = s.still := by
  simp [ctmLeave]

@[simp] theorem answer_still (p : HostId) (r : Reply) (s : State) :
    (answer p r s).still = s.still := by
  simp [answer]

@[simp] theorem releaseMarks_still (s : State) :
    (releaseMarks s).still = s.still := by
  simp [releaseMarks]

@[simp] theorem assertMarks_still (s : State) :
    (assertMarks s).still = s.still := by
  simp [assertMarks]

@[simp] theorem wtuBoundary_still (s : State) :
    (wtuBoundary s).still = s.still := by
  unfold wtuBoundary
  (repeat' split) <;> simp

@[simp] theorem otaBoundary_still (s : State) :
    (otaBoundary s).still = s.still := by
  unfold otaBoundary
  (repeat' split) <;> simp

@[simp] theorem accessPeriod_still (s : State) : ((accessPeriod s).1).still = s.still := by
  unfold accessPeriod
  (repeat' split) <;> simp

@[simp] theorem endAccessIf_still (b : Bool) (s : State) :
    (endAccessIf b s).still = s.still := by
  unfold endAccessIf
  (repeat' split) <;> simp

end Sys2Proof.Machine
end

