-- ==== Sys2Proof/Laws/Fields.lean ====
section
/-!
SUPPORT. The fields that no operation of WTU, RGM, TBI, OTA or the engine changes, one lemma per field and operation, for simp.
-/
namespace Sys2Proof.Machine

@[simp] theorem freeRegion_ctm (i : RegionId) (r : Region) (k : RetireCause) (s : State) : (freeRegion i r k s).ctm = s.ctm :=
  State.ctm_of_still (freeRegion_still i r k s)
@[simp] theorem freeRegion_agu (i : RegionId) (r : Region) (k : RetireCause) (s : State) : (freeRegion i r k s).agu = s.agu :=
  State.agu_of_still (freeRegion_still i r k s)
@[simp] theorem freeRegion_resetLow (i : RegionId) (r : Region) (k : RetireCause) (s : State) : (freeRegion i r k s).resetLow = s.resetLow :=
  State.resetLow_of_still (freeRegion_still i r k s)
@[simp] theorem freeRegion_pending (i : RegionId) (r : Region) (k : RetireCause) (s : State) : (freeRegion i r k s).pending = s.pending :=
  State.pending_of_still (freeRegion_still i r k s)
@[simp] theorem testFree_ctm (i : RegionId) (s : State) : (testFree i s).ctm = s.ctm :=
  State.ctm_of_still (testFree_still i s)
@[simp] theorem testFree_agu (i : RegionId) (s : State) : (testFree i s).agu = s.agu :=
  State.agu_of_still (testFree_still i s)
@[simp] theorem testFree_resetLow (i : RegionId) (s : State) : (testFree i s).resetLow = s.resetLow :=
  State.resetLow_of_still (testFree_still i s)
@[simp] theorem testFree_pending (i : RegionId) (s : State) : (testFree i s).pending = s.pending :=
  State.pending_of_still (testFree_still i s)
@[simp] theorem reportUnnamed_ctm (u : Wtu) (s : State) : (reportUnnamed u s).ctm = s.ctm :=
  State.ctm_of_still (reportUnnamed_still u s)
@[simp] theorem reportUnnamed_agu (u : Wtu) (s : State) : (reportUnnamed u s).agu = s.agu :=
  State.agu_of_still (reportUnnamed_still u s)
@[simp] theorem reportUnnamed_resetLow (u : Wtu) (s : State) : (reportUnnamed u s).resetLow = s.resetLow :=
  State.resetLow_of_still (reportUnnamed_still u s)
@[simp] theorem reportUnnamed_pending (u : Wtu) (s : State) : (reportUnnamed u s).pending = s.pending :=
  State.pending_of_still (reportUnnamed_still u s)
@[simp] theorem State.modRegion_ctm (i : RegionId) (f : Region → Region) (s : State) : (s.modRegion i f).ctm = s.ctm :=
  State.ctm_of_still (State.modRegion_still i f s)
@[simp] theorem State.modRegion_agu (i : RegionId) (f : Region → Region) (s : State) : (s.modRegion i f).agu = s.agu :=
  State.agu_of_still (State.modRegion_still i f s)
@[simp] theorem State.modRegion_resetLow (i : RegionId) (f : Region → Region) (s : State) : (s.modRegion i f).resetLow = s.resetLow :=
  State.resetLow_of_still (State.modRegion_still i f s)
@[simp] theorem State.modRegion_pending (i : RegionId) (f : Region → Region) (s : State) : (s.modRegion i f).pending = s.pending :=
  State.pending_of_still (State.modRegion_still i f s)
@[simp] theorem State.setReadHandle_ctm (h : HostId) (a : Fin 4) (x : Option Handle) (b : Option Binding) (s : State) : (s.setReadHandle h a x b).ctm = s.ctm :=
  State.ctm_of_still (State.setReadHandle_still h a x b s)
@[simp] theorem State.setReadHandle_agu (h : HostId) (a : Fin 4) (x : Option Handle) (b : Option Binding) (s : State) : (s.setReadHandle h a x b).agu = s.agu :=
  State.agu_of_still (State.setReadHandle_still h a x b s)
@[simp] theorem State.setReadHandle_resetLow (h : HostId) (a : Fin 4) (x : Option Handle) (b : Option Binding) (s : State) : (s.setReadHandle h a x b).resetLow = s.resetLow :=
  State.resetLow_of_still (State.setReadHandle_still h a x b s)
@[simp] theorem State.setReadHandle_pending (h : HostId) (a : Fin 4) (x : Option Handle) (b : Option Binding) (s : State) : (s.setReadHandle h a x b).pending = s.pending :=
  State.pending_of_still (State.setReadHandle_still h a x b s)
@[simp] theorem State.setWriteHandle_ctm (h : HostId) (x : Option Handle) (b : Option Binding) (s : State) : (s.setWriteHandle h x b).ctm = s.ctm :=
  State.ctm_of_still (State.setWriteHandle_still h x b s)
@[simp] theorem State.setWriteHandle_agu (h : HostId) (x : Option Handle) (b : Option Binding) (s : State) : (s.setWriteHandle h x b).agu = s.agu :=
  State.agu_of_still (State.setWriteHandle_still h x b s)
@[simp] theorem State.setWriteHandle_resetLow (h : HostId) (x : Option Handle) (b : Option Binding) (s : State) : (s.setWriteHandle h x b).resetLow = s.resetLow :=
  State.resetLow_of_still (State.setWriteHandle_still h x b s)
@[simp] theorem State.setWriteHandle_pending (h : HostId) (x : Option Handle) (b : Option Binding) (s : State) : (s.setWriteHandle h x b).pending = s.pending :=
  State.pending_of_still (State.setWriteHandle_still h x b s)
@[simp] theorem unbindRead_ctm (h : HostId) (a : Fin 4) (s : State) : (unbindRead h a s).ctm = s.ctm :=
  State.ctm_of_still (unbindRead_still h a s)
@[simp] theorem unbindRead_agu (h : HostId) (a : Fin 4) (s : State) : (unbindRead h a s).agu = s.agu :=
  State.agu_of_still (unbindRead_still h a s)
@[simp] theorem unbindRead_resetLow (h : HostId) (a : Fin 4) (s : State) : (unbindRead h a s).resetLow = s.resetLow :=
  State.resetLow_of_still (unbindRead_still h a s)
@[simp] theorem unbindRead_pending (h : HostId) (a : Fin 4) (s : State) : (unbindRead h a s).pending = s.pending :=
  State.pending_of_still (unbindRead_still h a s)
@[simp] theorem unbindWrite_ctm (h : HostId) (s : State) : (unbindWrite h s).ctm = s.ctm :=
  State.ctm_of_still (unbindWrite_still h s)
@[simp] theorem unbindWrite_agu (h : HostId) (s : State) : (unbindWrite h s).agu = s.agu :=
  State.agu_of_still (unbindWrite_still h s)
@[simp] theorem unbindWrite_resetLow (h : HostId) (s : State) : (unbindWrite h s).resetLow = s.resetLow :=
  State.resetLow_of_still (unbindWrite_still h s)
@[simp] theorem unbindWrite_pending (h : HostId) (s : State) : (unbindWrite h s).pending = s.pending :=
  State.pending_of_still (unbindWrite_still h s)
@[simp] theorem defineRegion_ctm (h : HostId) (c : Captured) (s : State) : ((defineRegion h c s).1).ctm = s.ctm :=
  State.ctm_of_still (defineRegion_still h c s)
@[simp] theorem defineRegion_agu (h : HostId) (c : Captured) (s : State) : ((defineRegion h c s).1).agu = s.agu :=
  State.agu_of_still (defineRegion_still h c s)
@[simp] theorem defineRegion_resetLow (h : HostId) (c : Captured) (s : State) : ((defineRegion h c s).1).resetLow = s.resetLow :=
  State.resetLow_of_still (defineRegion_still h c s)
@[simp] theorem defineRegion_pending (h : HostId) (c : Captured) (s : State) : ((defineRegion h c s).1).pending = s.pending :=
  State.pending_of_still (defineRegion_still h c s)
@[simp] theorem deleteRegion_ctm (h : HostId) (c : Captured) (s : State) : ((deleteRegion h c s).1).ctm = s.ctm :=
  State.ctm_of_still (deleteRegion_still h c s)
@[simp] theorem deleteRegion_agu (h : HostId) (c : Captured) (s : State) : ((deleteRegion h c s).1).agu = s.agu :=
  State.agu_of_still (deleteRegion_still h c s)
@[simp] theorem deleteRegion_resetLow (h : HostId) (c : Captured) (s : State) : ((deleteRegion h c s).1).resetLow = s.resetLow :=
  State.resetLow_of_still (deleteRegion_still h c s)
@[simp] theorem deleteRegion_pending (h : HostId) (c : Captured) (s : State) : ((deleteRegion h c s).1).pending = s.pending :=
  State.pending_of_still (deleteRegion_still h c s)
@[simp] theorem queryRegion_ctm (c : Captured) (s : State) : ((queryRegion c s).1).ctm = s.ctm :=
  State.ctm_of_still (queryRegion_still c s)
@[simp] theorem queryRegion_agu (c : Captured) (s : State) : ((queryRegion c s).1).agu = s.agu :=
  State.agu_of_still (queryRegion_still c s)
@[simp] theorem queryRegion_resetLow (c : Captured) (s : State) : ((queryRegion c s).1).resetLow = s.resetLow :=
  State.resetLow_of_still (queryRegion_still c s)
@[simp] theorem queryRegion_pending (c : Captured) (s : State) : ((queryRegion c s).1).pending = s.pending :=
  State.pending_of_still (queryRegion_still c s)
@[simp] theorem openRead_ctm (h : HostId) (c : Captured) (s : State) : ((openRead h c s).1).ctm = s.ctm :=
  State.ctm_of_still (openRead_still h c s)
@[simp] theorem openRead_agu (h : HostId) (c : Captured) (s : State) : ((openRead h c s).1).agu = s.agu :=
  State.agu_of_still (openRead_still h c s)
@[simp] theorem openRead_resetLow (h : HostId) (c : Captured) (s : State) : ((openRead h c s).1).resetLow = s.resetLow :=
  State.resetLow_of_still (openRead_still h c s)
@[simp] theorem openRead_pending (h : HostId) (c : Captured) (s : State) : ((openRead h c s).1).pending = s.pending :=
  State.pending_of_still (openRead_still h c s)
@[simp] theorem closeRead_ctm (h : HostId) (c : Captured) (s : State) : ((closeRead h c s).1).ctm = s.ctm :=
  State.ctm_of_still (closeRead_still h c s)
@[simp] theorem closeRead_agu (h : HostId) (c : Captured) (s : State) : ((closeRead h c s).1).agu = s.agu :=
  State.agu_of_still (closeRead_still h c s)
@[simp] theorem closeRead_resetLow (h : HostId) (c : Captured) (s : State) : ((closeRead h c s).1).resetLow = s.resetLow :=
  State.resetLow_of_still (closeRead_still h c s)
@[simp] theorem closeRead_pending (h : HostId) (c : Captured) (s : State) : ((closeRead h c s).1).pending = s.pending :=
  State.pending_of_still (closeRead_still h c s)
@[simp] theorem openWrite_ctm (h : HostId) (c : Captured) (s : State) : ((openWrite h c s).1).ctm = s.ctm :=
  State.ctm_of_still (openWrite_still h c s)
@[simp] theorem openWrite_agu (h : HostId) (c : Captured) (s : State) : ((openWrite h c s).1).agu = s.agu :=
  State.agu_of_still (openWrite_still h c s)
@[simp] theorem openWrite_resetLow (h : HostId) (c : Captured) (s : State) : ((openWrite h c s).1).resetLow = s.resetLow :=
  State.resetLow_of_still (openWrite_still h c s)
@[simp] theorem openWrite_pending (h : HostId) (c : Captured) (s : State) : ((openWrite h c s).1).pending = s.pending :=
  State.pending_of_still (openWrite_still h c s)
@[simp] theorem publish_ctm (h : HostId) (s : State) : ((publish h s).1).ctm = s.ctm :=
  State.ctm_of_still (publish_still h s)
@[simp] theorem publish_agu (h : HostId) (s : State) : ((publish h s).1).agu = s.agu :=
  State.agu_of_still (publish_still h s)
@[simp] theorem publish_resetLow (h : HostId) (s : State) : ((publish h s).1).resetLow = s.resetLow :=
  State.resetLow_of_still (publish_still h s)
@[simp] theorem publish_pending (h : HostId) (s : State) : ((publish h s).1).pending = s.pending :=
  State.pending_of_still (publish_still h s)
@[simp] theorem abandonWrite_ctm (h : HostId) (s : State) : ((abandonWrite h s).1).ctm = s.ctm :=
  State.ctm_of_still (abandonWrite_still h s)
@[simp] theorem abandonWrite_agu (h : HostId) (s : State) : ((abandonWrite h s).1).agu = s.agu :=
  State.agu_of_still (abandonWrite_still h s)
@[simp] theorem abandonWrite_resetLow (h : HostId) (s : State) : ((abandonWrite h s).1).resetLow = s.resetLow :=
  State.resetLow_of_still (abandonWrite_still h s)
@[simp] theorem abandonWrite_pending (h : HostId) (s : State) : ((abandonWrite h s).1).pending = s.pending :=
  State.pending_of_still (abandonWrite_still h s)
@[simp] theorem dropClaim_ctm (s : State) : (dropClaim s).ctm = s.ctm :=
  State.ctm_of_still (dropClaim_still s)
@[simp] theorem dropClaim_agu (s : State) : (dropClaim s).agu = s.agu :=
  State.agu_of_still (dropClaim_still s)
@[simp] theorem dropClaim_resetLow (s : State) : (dropClaim s).resetLow = s.resetLow :=
  State.resetLow_of_still (dropClaim_still s)
@[simp] theorem dropClaim_pending (s : State) : (dropClaim s).pending = s.pending :=
  State.pending_of_still (dropClaim_still s)
@[simp] theorem currentGeneration_ctm (i : RegionId) (s : State) : ((currentGeneration i s).2).ctm = s.ctm :=
  State.ctm_of_still (currentGeneration_still i s)
@[simp] theorem currentGeneration_agu (i : RegionId) (s : State) : ((currentGeneration i s).2).agu = s.agu :=
  State.agu_of_still (currentGeneration_still i s)
@[simp] theorem currentGeneration_resetLow (i : RegionId) (s : State) : ((currentGeneration i s).2).resetLow = s.resetLow :=
  State.resetLow_of_still (currentGeneration_still i s)
@[simp] theorem currentGeneration_pending (i : RegionId) (s : State) : ((currentGeneration i s).2).pending = s.pending :=
  State.pending_of_still (currentGeneration_still i s)
@[simp] theorem fillComplete_ctm (s : State) : ((fillComplete s).2).ctm = s.ctm :=
  State.ctm_of_still (fillComplete_still s)
@[simp] theorem fillComplete_agu (s : State) : ((fillComplete s).2).agu = s.agu :=
  State.agu_of_still (fillComplete_still s)
@[simp] theorem fillComplete_resetLow (s : State) : ((fillComplete s).2).resetLow = s.resetLow :=
  State.resetLow_of_still (fillComplete_still s)
@[simp] theorem fillComplete_pending (s : State) : ((fillComplete s).2).pending = s.pending :=
  State.pending_of_still (fillComplete_still s)
@[simp] theorem fillDiscard_ctm (s : State) : ((fillDiscard s).2).ctm = s.ctm :=
  State.ctm_of_still (fillDiscard_still s)
@[simp] theorem fillDiscard_agu (s : State) : ((fillDiscard s).2).agu = s.agu :=
  State.agu_of_still (fillDiscard_still s)
@[simp] theorem fillDiscard_resetLow (s : State) : ((fillDiscard s).2).resetLow = s.resetLow :=
  State.resetLow_of_still (fillDiscard_still s)
@[simp] theorem fillDiscard_pending (s : State) : ((fillDiscard s).2).pending = s.pending :=
  State.pending_of_still (fillDiscard_still s)
@[simp] theorem drainRelease_ctm (s : State) : (drainRelease s).ctm = s.ctm :=
  State.ctm_of_still (drainRelease_still s)
@[simp] theorem drainRelease_agu (s : State) : (drainRelease s).agu = s.agu :=
  State.agu_of_still (drainRelease_still s)
@[simp] theorem drainRelease_resetLow (s : State) : (drainRelease s).resetLow = s.resetLow :=
  State.resetLow_of_still (drainRelease_still s)
@[simp] theorem drainRelease_pending (s : State) : (drainRelease s).pending = s.pending :=
  State.pending_of_still (drainRelease_still s)
@[simp] theorem bankWrite_ctm (i : RegionId) (b w : Nat) (v : Word) (s : State) : (bankWrite i b w v s).ctm = s.ctm :=
  State.ctm_of_still (bankWrite_still i b w v s)
@[simp] theorem bankWrite_agu (i : RegionId) (b w : Nat) (v : Word) (s : State) : (bankWrite i b w v s).agu = s.agu :=
  State.agu_of_still (bankWrite_still i b w v s)
@[simp] theorem bankWrite_resetLow (i : RegionId) (b w : Nat) (v : Word) (s : State) : (bankWrite i b w v s).resetLow = s.resetLow :=
  State.resetLow_of_still (bankWrite_still i b w v s)
@[simp] theorem bankWrite_pending (i : RegionId) (b w : Nat) (v : Word) (s : State) : (bankWrite i b w v s).pending = s.pending :=
  State.pending_of_still (bankWrite_still i b w v s)
@[simp] theorem retireOwned_ctm (h : HostId) (i : RegionId) (s : State) : (retireOwned h i s).ctm = s.ctm :=
  State.ctm_of_still (retireOwned_still h i s)
@[simp] theorem retireOwned_agu (h : HostId) (i : RegionId) (s : State) : (retireOwned h i s).agu = s.agu :=
  State.agu_of_still (retireOwned_still h i s)
@[simp] theorem retireOwned_resetLow (h : HostId) (i : RegionId) (s : State) : (retireOwned h i s).resetLow = s.resetLow :=
  State.resetLow_of_still (retireOwned_still h i s)
@[simp] theorem retireOwned_pending (h : HostId) (i : RegionId) (s : State) : (retireOwned h i s).pending = s.pending :=
  State.pending_of_still (retireOwned_still h i s)
@[simp] theorem rgmLeave_ctm (h : HostId) (s : State) : (rgmLeave h s).ctm = s.ctm :=
  State.ctm_of_still (rgmLeave_still h s)
@[simp] theorem rgmLeave_agu (h : HostId) (s : State) : (rgmLeave h s).agu = s.agu :=
  State.agu_of_still (rgmLeave_still h s)
@[simp] theorem rgmLeave_resetLow (h : HostId) (s : State) : (rgmLeave h s).resetLow = s.resetLow :=
  State.resetLow_of_still (rgmLeave_still h s)
@[simp] theorem rgmLeave_pending (h : HostId) (s : State) : (rgmLeave h s).pending = s.pending :=
  State.pending_of_still (rgmLeave_still h s)
@[simp] theorem postEditsApplied_ctm (es : List Edit) (w : Word) (s : State) : (postEditsApplied es w s).ctm = s.ctm :=
  State.ctm_of_still (postEditsApplied_still es w s)
@[simp] theorem postEditsApplied_agu (es : List Edit) (w : Word) (s : State) : (postEditsApplied es w s).agu = s.agu :=
  State.agu_of_still (postEditsApplied_still es w s)
@[simp] theorem postEditsApplied_resetLow (es : List Edit) (w : Word) (s : State) : (postEditsApplied es w s).resetLow = s.resetLow :=
  State.resetLow_of_still (postEditsApplied_still es w s)
@[simp] theorem postEditsApplied_pending (es : List Edit) (w : Word) (s : State) : (postEditsApplied es w s).pending = s.pending :=
  State.pending_of_still (postEditsApplied_still es w s)
@[simp] theorem wtuReact_ctm (s : State) : (wtuReact s).ctm = s.ctm :=
  State.ctm_of_still (wtuReact_still s)
@[simp] theorem wtuReact_agu (s : State) : (wtuReact s).agu = s.agu :=
  State.agu_of_still (wtuReact_still s)
@[simp] theorem wtuReact_resetLow (s : State) : (wtuReact s).resetLow = s.resetLow :=
  State.resetLow_of_still (wtuReact_still s)
@[simp] theorem wtuReact_pending (s : State) : (wtuReact s).pending = s.pending :=
  State.pending_of_still (wtuReact_still s)
@[simp] theorem wtuCatchUp_ctm (s : State) : (wtuCatchUp s).ctm = s.ctm :=
  State.ctm_of_still (wtuCatchUp_still s)
@[simp] theorem wtuCatchUp_agu (s : State) : (wtuCatchUp s).agu = s.agu :=
  State.agu_of_still (wtuCatchUp_still s)
@[simp] theorem wtuCatchUp_resetLow (s : State) : (wtuCatchUp s).resetLow = s.resetLow :=
  State.resetLow_of_still (wtuCatchUp_still s)
@[simp] theorem wtuCatchUp_pending (s : State) : (wtuCatchUp s).pending = s.pending :=
  State.pending_of_still (wtuCatchUp_still s)
@[simp] theorem dispose_ctm (e : Edit) (s : State) : ((dispose e s).1).ctm = s.ctm :=
  State.ctm_of_still (dispose_still e s)
@[simp] theorem dispose_agu (e : Edit) (s : State) : ((dispose e s).1).agu = s.agu :=
  State.agu_of_still (dispose_still e s)
@[simp] theorem dispose_resetLow (e : Edit) (s : State) : ((dispose e s).1).resetLow = s.resetLow :=
  State.resetLow_of_still (dispose_still e s)
@[simp] theorem dispose_pending (e : Edit) (s : State) : ((dispose e s).1).pending = s.pending :=
  State.pending_of_still (dispose_still e s)
@[simp] theorem stageAddChecked_ctm (h : HostId) (c : Captured) (s : State) : ((stageAddChecked h c s).1).ctm = s.ctm :=
  State.ctm_of_still (stageAddChecked_still h c s)
@[simp] theorem stageAddChecked_agu (h : HostId) (c : Captured) (s : State) : ((stageAddChecked h c s).1).agu = s.agu :=
  State.agu_of_still (stageAddChecked_still h c s)
@[simp] theorem stageAddChecked_resetLow (h : HostId) (c : Captured) (s : State) : ((stageAddChecked h c s).1).resetLow = s.resetLow :=
  State.resetLow_of_still (stageAddChecked_still h c s)
@[simp] theorem stageAddChecked_pending (h : HostId) (c : Captured) (s : State) : ((stageAddChecked h c s).1).pending = s.pending :=
  State.pending_of_still (stageAddChecked_still h c s)
@[simp] theorem stageAdd_ctm (h : HostId) (c : Captured) (s : State) : ((stageAdd h c s).1).ctm = s.ctm :=
  State.ctm_of_still (stageAdd_still h c s)
@[simp] theorem stageAdd_agu (h : HostId) (c : Captured) (s : State) : ((stageAdd h c s).1).agu = s.agu :=
  State.agu_of_still (stageAdd_still h c s)
@[simp] theorem stageAdd_resetLow (h : HostId) (c : Captured) (s : State) : ((stageAdd h c s).1).resetLow = s.resetLow :=
  State.resetLow_of_still (stageAdd_still h c s)
@[simp] theorem stageAdd_pending (h : HostId) (c : Captured) (s : State) : ((stageAdd h c s).1).pending = s.pending :=
  State.pending_of_still (stageAdd_still h c s)
@[simp] theorem stageChangeChecked_ctm (h : HostId) (c : Captured) (s : State) : ((stageChangeChecked h c s).1).ctm = s.ctm :=
  State.ctm_of_still (stageChangeChecked_still h c s)
@[simp] theorem stageChangeChecked_agu (h : HostId) (c : Captured) (s : State) : ((stageChangeChecked h c s).1).agu = s.agu :=
  State.agu_of_still (stageChangeChecked_still h c s)
@[simp] theorem stageChangeChecked_resetLow (h : HostId) (c : Captured) (s : State) : ((stageChangeChecked h c s).1).resetLow = s.resetLow :=
  State.resetLow_of_still (stageChangeChecked_still h c s)
@[simp] theorem stageChangeChecked_pending (h : HostId) (c : Captured) (s : State) : ((stageChangeChecked h c s).1).pending = s.pending :=
  State.pending_of_still (stageChangeChecked_still h c s)
@[simp] theorem stageChange_ctm (h : HostId) (c : Captured) (s : State) : ((stageChange h c s).1).ctm = s.ctm :=
  State.ctm_of_still (stageChange_still h c s)
@[simp] theorem stageChange_agu (h : HostId) (c : Captured) (s : State) : ((stageChange h c s).1).agu = s.agu :=
  State.agu_of_still (stageChange_still h c s)
@[simp] theorem stageChange_resetLow (h : HostId) (c : Captured) (s : State) : ((stageChange h c s).1).resetLow = s.resetLow :=
  State.resetLow_of_still (stageChange_still h c s)
@[simp] theorem stageChange_pending (h : HostId) (c : Captured) (s : State) : ((stageChange h c s).1).pending = s.pending :=
  State.pending_of_still (stageChange_still h c s)
@[simp] theorem stageRemoveChecked_ctm (h : HostId) (c : Captured) (s : State) : ((stageRemoveChecked h c s).1).ctm = s.ctm :=
  State.ctm_of_still (stageRemoveChecked_still h c s)
@[simp] theorem stageRemoveChecked_agu (h : HostId) (c : Captured) (s : State) : ((stageRemoveChecked h c s).1).agu = s.agu :=
  State.agu_of_still (stageRemoveChecked_still h c s)
@[simp] theorem stageRemoveChecked_resetLow (h : HostId) (c : Captured) (s : State) : ((stageRemoveChecked h c s).1).resetLow = s.resetLow :=
  State.resetLow_of_still (stageRemoveChecked_still h c s)
@[simp] theorem stageRemoveChecked_pending (h : HostId) (c : Captured) (s : State) : ((stageRemoveChecked h c s).1).pending = s.pending :=
  State.pending_of_still (stageRemoveChecked_still h c s)
@[simp] theorem stageRemove_ctm (h : HostId) (c : Captured) (s : State) : ((stageRemove h c s).1).ctm = s.ctm :=
  State.ctm_of_still (stageRemove_still h c s)
@[simp] theorem stageRemove_agu (h : HostId) (c : Captured) (s : State) : ((stageRemove h c s).1).agu = s.agu :=
  State.agu_of_still (stageRemove_still h c s)
@[simp] theorem stageRemove_resetLow (h : HostId) (c : Captured) (s : State) : ((stageRemove h c s).1).resetLow = s.resetLow :=
  State.resetLow_of_still (stageRemove_still h c s)
@[simp] theorem stageRemove_pending (h : HostId) (c : Captured) (s : State) : ((stageRemove h c s).1).pending = s.pending :=
  State.pending_of_still (stageRemove_still h c s)
@[simp] theorem withdrawEditChecked_ctm (h : HostId) (c : Captured) (s : State) : ((withdrawEditChecked h c s).1).ctm = s.ctm :=
  State.ctm_of_still (withdrawEditChecked_still h c s)
@[simp] theorem withdrawEditChecked_agu (h : HostId) (c : Captured) (s : State) : ((withdrawEditChecked h c s).1).agu = s.agu :=
  State.agu_of_still (withdrawEditChecked_still h c s)
@[simp] theorem withdrawEditChecked_resetLow (h : HostId) (c : Captured) (s : State) : ((withdrawEditChecked h c s).1).resetLow = s.resetLow :=
  State.resetLow_of_still (withdrawEditChecked_still h c s)
@[simp] theorem withdrawEditChecked_pending (h : HostId) (c : Captured) (s : State) : ((withdrawEditChecked h c s).1).pending = s.pending :=
  State.pending_of_still (withdrawEditChecked_still h c s)
@[simp] theorem withdrawEdit_ctm (h : HostId) (c : Captured) (s : State) : ((withdrawEdit h c s).1).ctm = s.ctm :=
  State.ctm_of_still (withdrawEdit_still h c s)
@[simp] theorem withdrawEdit_agu (h : HostId) (c : Captured) (s : State) : ((withdrawEdit h c s).1).agu = s.agu :=
  State.agu_of_still (withdrawEdit_still h c s)
@[simp] theorem withdrawEdit_resetLow (h : HostId) (c : Captured) (s : State) : ((withdrawEdit h c s).1).resetLow = s.resetLow :=
  State.resetLow_of_still (withdrawEdit_still h c s)
@[simp] theorem withdrawEdit_pending (h : HostId) (c : Captured) (s : State) : ((withdrawEdit h c s).1).pending = s.pending :=
  State.pending_of_still (withdrawEdit_still h c s)
@[simp] theorem queryWindow_ctm (h : HostId) (c : Captured) (s : State) : ((queryWindow h c s).1).ctm = s.ctm :=
  State.ctm_of_still (queryWindow_still h c s)
@[simp] theorem queryWindow_agu (h : HostId) (c : Captured) (s : State) : ((queryWindow h c s).1).agu = s.agu :=
  State.agu_of_still (queryWindow_still h c s)
@[simp] theorem queryWindow_resetLow (h : HostId) (c : Captured) (s : State) : ((queryWindow h c s).1).resetLow = s.resetLow :=
  State.resetLow_of_still (queryWindow_still h c s)
@[simp] theorem queryWindow_pending (h : HostId) (c : Captured) (s : State) : ((queryWindow h c s).1).pending = s.pending :=
  State.pending_of_still (queryWindow_still h c s)
@[simp] theorem wtuLeave_ctm (h : HostId) (s : State) : (wtuLeave h s).ctm = s.ctm :=
  State.ctm_of_still (wtuLeave_still h s)
@[simp] theorem wtuLeave_agu (h : HostId) (s : State) : (wtuLeave h s).agu = s.agu :=
  State.agu_of_still (wtuLeave_still h s)
@[simp] theorem wtuLeave_resetLow (h : HostId) (s : State) : (wtuLeave h s).resetLow = s.resetLow :=
  State.resetLow_of_still (wtuLeave_still h s)
@[simp] theorem wtuLeave_pending (h : HostId) (s : State) : (wtuLeave h s).pending = s.pending :=
  State.pending_of_still (wtuLeave_still h s)
@[simp] theorem changeTarget_ctm (t : TargetId) (n : TargetState) (c : TargetCause) (s : State) : (changeTarget t n c s).ctm = s.ctm :=
  State.ctm_of_still (changeTarget_still t n c s)
@[simp] theorem changeTarget_agu (t : TargetId) (n : TargetState) (c : TargetCause) (s : State) : (changeTarget t n c s).agu = s.agu :=
  State.agu_of_still (changeTarget_still t n c s)
@[simp] theorem changeTarget_resetLow (t : TargetId) (n : TargetState) (c : TargetCause) (s : State) : (changeTarget t n c s).resetLow = s.resetLow :=
  State.resetLow_of_still (changeTarget_still t n c s)
@[simp] theorem changeTarget_pending (t : TargetId) (n : TargetState) (c : TargetCause) (s : State) : (changeTarget t n c s).pending = s.pending :=
  State.pending_of_still (changeTarget_still t n c s)
@[simp] theorem queueProbe_ctm (t : TargetId) (s : State) : (queueProbe t s).ctm = s.ctm :=
  State.ctm_of_still (queueProbe_still t s)
@[simp] theorem queueProbe_agu (t : TargetId) (s : State) : (queueProbe t s).agu = s.agu :=
  State.agu_of_still (queueProbe_still t s)
@[simp] theorem queueProbe_resetLow (t : TargetId) (s : State) : (queueProbe t s).resetLow = s.resetLow :=
  State.resetLow_of_still (queueProbe_still t s)
@[simp] theorem queueProbe_pending (t : TargetId) (s : State) : (queueProbe t s).pending = s.pending :=
  State.pending_of_still (queueProbe_still t s)
@[simp] theorem dropProbe_ctm (t : TargetId) (s : State) : (dropProbe t s).ctm = s.ctm :=
  State.ctm_of_still (dropProbe_still t s)
@[simp] theorem dropProbe_agu (t : TargetId) (s : State) : (dropProbe t s).agu = s.agu :=
  State.agu_of_still (dropProbe_still t s)
@[simp] theorem dropProbe_resetLow (t : TargetId) (s : State) : (dropProbe t s).resetLow = s.resetLow :=
  State.resetLow_of_still (dropProbe_still t s)
@[simp] theorem dropProbe_pending (t : TargetId) (s : State) : (dropProbe t s).pending = s.pending :=
  State.pending_of_still (dropProbe_still t s)
@[simp] theorem takeSettings_ctm (ts : TargetSettings) (s : State) : (takeSettings ts s).ctm = s.ctm :=
  State.ctm_of_still (takeSettings_still ts s)
@[simp] theorem takeSettings_agu (ts : TargetSettings) (s : State) : (takeSettings ts s).agu = s.agu :=
  State.agu_of_still (takeSettings_still ts s)
@[simp] theorem takeSettings_resetLow (ts : TargetSettings) (s : State) : (takeSettings ts s).resetLow = s.resetLow :=
  State.resetLow_of_still (takeSettings_still ts s)
@[simp] theorem takeSettings_pending (ts : TargetSettings) (s : State) : (takeSettings ts s).pending = s.pending :=
  State.pending_of_still (takeSettings_still ts s)
@[simp] theorem beginAccess_ctm (q : AccessReq) (s : State) : (beginAccess q s).ctm = s.ctm :=
  State.ctm_of_still (beginAccess_still q s)
@[simp] theorem beginAccess_agu (q : AccessReq) (s : State) : (beginAccess q s).agu = s.agu :=
  State.agu_of_still (beginAccess_still q s)
@[simp] theorem beginAccess_resetLow (q : AccessReq) (s : State) : (beginAccess q s).resetLow = s.resetLow :=
  State.resetLow_of_still (beginAccess_still q s)
@[simp] theorem beginAccess_pending (q : AccessReq) (s : State) : (beginAccess q s).pending = s.pending :=
  State.pending_of_still (beginAccess_still q s)
@[simp] theorem askAccess_ctm (q : AccessReq) (s : State) : (askAccess q s).ctm = s.ctm :=
  State.ctm_of_still (askAccess_still q s)
@[simp] theorem askAccess_agu (q : AccessReq) (s : State) : (askAccess q s).agu = s.agu :=
  State.agu_of_still (askAccess_still q s)
@[simp] theorem askAccess_resetLow (q : AccessReq) (s : State) : (askAccess q s).resetLow = s.resetLow :=
  State.resetLow_of_still (askAccess_still q s)
@[simp] theorem askAccess_pending (q : AccessReq) (s : State) : (askAccess q s).pending = s.pending :=
  State.pending_of_still (askAccess_still q s)
@[simp] theorem tbiAccessEnd_ctm (a : Access) (s : State) : (tbiAccessEnd a s).ctm = s.ctm :=
  State.ctm_of_still (tbiAccessEnd_still a s)
@[simp] theorem tbiAccessEnd_agu (a : Access) (s : State) : (tbiAccessEnd a s).agu = s.agu :=
  State.agu_of_still (tbiAccessEnd_still a s)
@[simp] theorem tbiAccessEnd_resetLow (a : Access) (s : State) : (tbiAccessEnd a s).resetLow = s.resetLow :=
  State.resetLow_of_still (tbiAccessEnd_still a s)
@[simp] theorem tbiAccessEnd_pending (a : Access) (s : State) : (tbiAccessEnd a s).pending = s.pending :=
  State.pending_of_still (tbiAccessEnd_still a s)
@[simp] theorem readyTimeout_ctm (s : State) : (readyTimeout s).ctm = s.ctm :=
  State.ctm_of_still (readyTimeout_still s)
@[simp] theorem readyTimeout_agu (s : State) : (readyTimeout s).agu = s.agu :=
  State.agu_of_still (readyTimeout_still s)
@[simp] theorem readyTimeout_resetLow (s : State) : (readyTimeout s).resetLow = s.resetLow :=
  State.resetLow_of_still (readyTimeout_still s)
@[simp] theorem readyTimeout_pending (s : State) : (readyTimeout s).pending = s.pending :=
  State.pending_of_still (readyTimeout_still s)
@[simp] theorem queryTarget_ctm (c : Captured) (s : State) : ((queryTarget c s).1).ctm = s.ctm :=
  State.ctm_of_still (queryTarget_still c s)
@[simp] theorem queryTarget_agu (c : Captured) (s : State) : ((queryTarget c s).1).agu = s.agu :=
  State.agu_of_still (queryTarget_still c s)
@[simp] theorem queryTarget_resetLow (c : Captured) (s : State) : ((queryTarget c s).1).resetLow = s.resetLow :=
  State.resetLow_of_still (queryTarget_still c s)
@[simp] theorem queryTarget_pending (c : Captured) (s : State) : ((queryTarget c s).1).pending = s.pending :=
  State.pending_of_still (queryTarget_still c s)
@[simp] theorem engineRests_ctm (s : State) : (engineRests s).ctm = s.ctm :=
  State.ctm_of_still (engineRests_still s)
@[simp] theorem engineRests_agu (s : State) : (engineRests s).agu = s.agu :=
  State.agu_of_still (engineRests_still s)
@[simp] theorem engineRests_resetLow (s : State) : (engineRests s).resetLow = s.resetLow :=
  State.resetLow_of_still (engineRests_still s)
@[simp] theorem engineRests_pending (s : State) : (engineRests s).pending = s.pending :=
  State.pending_of_still (engineRests_still s)
@[simp] theorem releaseClaim_ctm (st : WindowStatus) (c : RunCopy) (s : State) : ((releaseClaim st c s).2).ctm = s.ctm :=
  State.ctm_of_still (releaseClaim_still st c s)
@[simp] theorem releaseClaim_agu (st : WindowStatus) (c : RunCopy) (s : State) : ((releaseClaim st c s).2).agu = s.agu :=
  State.agu_of_still (releaseClaim_still st c s)
@[simp] theorem releaseClaim_resetLow (st : WindowStatus) (c : RunCopy) (s : State) : ((releaseClaim st c s).2).resetLow = s.resetLow :=
  State.resetLow_of_still (releaseClaim_still st c s)
@[simp] theorem releaseClaim_pending (st : WindowStatus) (c : RunCopy) (s : State) : ((releaseClaim st c s).2).pending = s.pending :=
  State.pending_of_still (releaseClaim_still st c s)
@[simp] theorem reportRun_ctm (st : WindowStatus) (c : RunCopy) (g : BitVec 32) (s : State) : (reportRun st c g s).ctm = s.ctm :=
  State.ctm_of_still (reportRun_still st c g s)
@[simp] theorem reportRun_agu (st : WindowStatus) (c : RunCopy) (g : BitVec 32) (s : State) : (reportRun st c g s).agu = s.agu :=
  State.agu_of_still (reportRun_still st c g s)
@[simp] theorem reportRun_resetLow (st : WindowStatus) (c : RunCopy) (g : BitVec 32) (s : State) : (reportRun st c g s).resetLow = s.resetLow :=
  State.resetLow_of_still (reportRun_still st c g s)
@[simp] theorem reportRun_pending (st : WindowStatus) (c : RunCopy) (g : BitVec 32) (s : State) : (reportRun st c g s).pending = s.pending :=
  State.pending_of_still (reportRun_still st c g s)
@[simp] theorem endReports_ctm (st : WindowStatus) (c : RunCopy) (s : State) : (endReports st c s).ctm = s.ctm :=
  State.ctm_of_still (endReports_still st c s)
@[simp] theorem endReports_agu (st : WindowStatus) (c : RunCopy) (s : State) : (endReports st c s).agu = s.agu :=
  State.agu_of_still (endReports_still st c s)
@[simp] theorem endReports_resetLow (st : WindowStatus) (c : RunCopy) (s : State) : (endReports st c s).resetLow = s.resetLow :=
  State.resetLow_of_still (endReports_still st c s)
@[simp] theorem endReports_pending (st : WindowStatus) (c : RunCopy) (s : State) : (endReports st c s).pending = s.pending :=
  State.pending_of_still (endReports_still st c s)
@[simp] theorem reportUnclaimed_ctm (st : WindowStatus) (c : RunCopy) (s : State) : (reportUnclaimed st c s).ctm = s.ctm :=
  State.ctm_of_still (reportUnclaimed_still st c s)
@[simp] theorem reportUnclaimed_agu (st : WindowStatus) (c : RunCopy) (s : State) : (reportUnclaimed st c s).agu = s.agu :=
  State.agu_of_still (reportUnclaimed_still st c s)
@[simp] theorem reportUnclaimed_resetLow (st : WindowStatus) (c : RunCopy) (s : State) : (reportUnclaimed st c s).resetLow = s.resetLow :=
  State.resetLow_of_still (reportUnclaimed_still st c s)
@[simp] theorem reportUnclaimed_pending (st : WindowStatus) (c : RunCopy) (s : State) : (reportUnclaimed st c s).pending = s.pending :=
  State.pending_of_still (reportUnclaimed_still st c s)
@[simp] theorem failStart_ctm (st : WindowStatus) (c : RunCopy) (s : State) : (failStart st c s).ctm = s.ctm :=
  State.ctm_of_still (failStart_still st c s)
@[simp] theorem failStart_agu (st : WindowStatus) (c : RunCopy) (s : State) : (failStart st c s).agu = s.agu :=
  State.agu_of_still (failStart_still st c s)
@[simp] theorem failStart_resetLow (st : WindowStatus) (c : RunCopy) (s : State) : (failStart st c s).resetLow = s.resetLow :=
  State.resetLow_of_still (failStart_still st c s)
@[simp] theorem failStart_pending (st : WindowStatus) (c : RunCopy) (s : State) : (failStart st c s).pending = s.pending :=
  State.pending_of_still (failStart_still st c s)
@[simp] theorem firstWord_ctm (c : RunCopy) (s : State) : (firstWord c s).ctm = s.ctm :=
  State.ctm_of_still (firstWord_still c s)
@[simp] theorem firstWord_agu (c : RunCopy) (s : State) : (firstWord c s).agu = s.agu :=
  State.agu_of_still (firstWord_still c s)
@[simp] theorem firstWord_resetLow (c : RunCopy) (s : State) : (firstWord c s).resetLow = s.resetLow :=
  State.resetLow_of_still (firstWord_still c s)
@[simp] theorem firstWord_pending (c : RunCopy) (s : State) : (firstWord c s).pending = s.pending :=
  State.pending_of_still (firstWord_still c s)
@[simp] theorem startChecks_ctm (c : RunCopy) (s : State) : (startChecks c s).ctm = s.ctm :=
  State.ctm_of_still (startChecks_still c s)
@[simp] theorem startChecks_agu (c : RunCopy) (s : State) : (startChecks c s).agu = s.agu :=
  State.agu_of_still (startChecks_still c s)
@[simp] theorem startChecks_resetLow (c : RunCopy) (s : State) : (startChecks c s).resetLow = s.resetLow :=
  State.resetLow_of_still (startChecks_still c s)
@[simp] theorem startChecks_pending (c : RunCopy) (s : State) : (startChecks c s).pending = s.pending :=
  State.pending_of_still (startChecks_still c s)
@[simp] theorem startRun_ctm (c : RunCopy) (s : State) : (startRun c s).ctm = s.ctm :=
  State.ctm_of_still (startRun_still c s)
@[simp] theorem startRun_agu (c : RunCopy) (s : State) : (startRun c s).agu = s.agu :=
  State.agu_of_still (startRun_still c s)
@[simp] theorem startRun_resetLow (c : RunCopy) (s : State) : (startRun c s).resetLow = s.resetLow :=
  State.resetLow_of_still (startRun_still c s)
@[simp] theorem startRun_pending (c : RunCopy) (s : State) : (startRun c s).pending = s.pending :=
  State.pending_of_still (startRun_still c s)
@[simp] theorem listRun_ctm (w : Window) (s : State) : (listRun w s).ctm = s.ctm :=
  State.ctm_of_still (listRun_still w s)
@[simp] theorem listRun_agu (w : Window) (s : State) : (listRun w s).agu = s.agu :=
  State.agu_of_still (listRun_still w s)
@[simp] theorem listRun_resetLow (w : Window) (s : State) : (listRun w s).resetLow = s.resetLow :=
  State.resetLow_of_still (listRun_still w s)
@[simp] theorem listRun_pending (w : Window) (s : State) : (listRun w s).pending = s.pending :=
  State.pending_of_still (listRun_still w s)
@[simp] theorem announceToIdle_ctm (s : State) : (announceToIdle s).ctm = s.ctm :=
  State.ctm_of_still (announceToIdle_still s)
@[simp] theorem announceToIdle_agu (s : State) : (announceToIdle s).agu = s.agu :=
  State.agu_of_still (announceToIdle_still s)
@[simp] theorem announceToIdle_resetLow (s : State) : (announceToIdle s).resetLow = s.resetLow :=
  State.resetLow_of_still (announceToIdle_still s)
@[simp] theorem announceToIdle_pending (s : State) : (announceToIdle s).pending = s.pending :=
  State.pending_of_still (announceToIdle_still s)
@[simp] theorem State.offered_ctm (s : State) : (s.offered).ctm = s.ctm :=
  State.ctm_of_still (State.offered_still s)
@[simp] theorem State.offered_agu (s : State) : (s.offered).agu = s.agu :=
  State.agu_of_still (State.offered_still s)
@[simp] theorem State.offered_resetLow (s : State) : (s.offered).resetLow = s.resetLow :=
  State.resetLow_of_still (State.offered_still s)
@[simp] theorem State.offered_pending (s : State) : (s.offered).pending = s.pending :=
  State.pending_of_still (State.offered_still s)
@[simp] theorem State.setQueue_ctm (h : HostId) (q : List Request) (s : State) : (s.setQueue h q).ctm = s.ctm :=
  State.ctm_of_still (State.setQueue_still h q s)
@[simp] theorem State.setQueue_agu (h : HostId) (q : List Request) (s : State) : (s.setQueue h q).agu = s.agu :=
  State.agu_of_still (State.setQueue_still h q s)
@[simp] theorem State.setQueue_resetLow (h : HostId) (q : List Request) (s : State) : (s.setQueue h q).resetLow = s.resetLow :=
  State.resetLow_of_still (State.setQueue_still h q s)
@[simp] theorem State.setQueue_pending (h : HostId) (q : List Request) (s : State) : (s.setQueue h q).pending = s.pending :=
  State.pending_of_still (State.setQueue_still h q s)
@[simp] theorem engineOpens_ctm (s : State) : (engineOpens s).ctm = s.ctm :=
  State.ctm_of_still (engineOpens_still s)
@[simp] theorem engineOpens_agu (s : State) : (engineOpens s).agu = s.agu :=
  State.agu_of_still (engineOpens_still s)
@[simp] theorem engineOpens_resetLow (s : State) : (engineOpens s).resetLow = s.resetLow :=
  State.resetLow_of_still (engineOpens_still s)
@[simp] theorem engineOpens_pending (s : State) : (engineOpens s).pending = s.pending :=
  State.pending_of_still (engineOpens_still s)
@[simp] theorem giveRequest_ctm (h : HostId) (r : Request) (s : State) : (giveRequest h r s).ctm = s.ctm :=
  State.ctm_of_still (giveRequest_still h r s)
@[simp] theorem giveRequest_agu (h : HostId) (r : Request) (s : State) : (giveRequest h r s).agu = s.agu :=
  State.agu_of_still (giveRequest_still h r s)
@[simp] theorem giveRequest_resetLow (h : HostId) (r : Request) (s : State) : (giveRequest h r s).resetLow = s.resetLow :=
  State.resetLow_of_still (giveRequest_still h r s)
@[simp] theorem giveRequest_pending (h : HostId) (r : Request) (s : State) : (giveRequest h r s).pending = s.pending :=
  State.pending_of_still (giveRequest_still h r s)
@[simp] theorem undoRequest_ctm (h : HostId) (r : Request) (p : HostId) (s : State) : (undoRequest h r p s).ctm = s.ctm :=
  State.ctm_of_still (undoRequest_still h r p s)
@[simp] theorem undoRequest_agu (h : HostId) (r : Request) (p : HostId) (s : State) : (undoRequest h r p s).agu = s.agu :=
  State.agu_of_still (undoRequest_still h r p s)
@[simp] theorem undoRequest_resetLow (h : HostId) (r : Request) (p : HostId) (s : State) : (undoRequest h r p s).resetLow = s.resetLow :=
  State.resetLow_of_still (undoRequest_still h r p s)
@[simp] theorem undoRequest_pending (h : HostId) (r : Request) (p : HostId) (s : State) : (undoRequest h r p s).pending = s.pending :=
  State.pending_of_still (undoRequest_still h r p s)
@[simp] theorem handRequest_ctm (h : HostId) (r : Request) (s : State) : (handRequest h r s).ctm = s.ctm :=
  State.ctm_of_still (handRequest_still h r s)
@[simp] theorem handRequest_agu (h : HostId) (r : Request) (s : State) : (handRequest h r s).agu = s.agu :=
  State.agu_of_still (handRequest_still h r s)
@[simp] theorem handRequest_resetLow (h : HostId) (r : Request) (s : State) : (handRequest h r s).resetLow = s.resetLow :=
  State.resetLow_of_still (handRequest_still h r s)
@[simp] theorem handRequest_pending (h : HostId) (r : Request) (s : State) : (handRequest h r s).pending = s.pending :=
  State.pending_of_still (handRequest_still h r s)
@[simp] theorem giveProbe_ctm (t : TargetId) (s : State) : (giveProbe t s).ctm = s.ctm :=
  State.ctm_of_still (giveProbe_still t s)
@[simp] theorem giveProbe_agu (t : TargetId) (s : State) : (giveProbe t s).agu = s.agu :=
  State.agu_of_still (giveProbe_still t s)
@[simp] theorem giveProbe_resetLow (t : TargetId) (s : State) : (giveProbe t s).resetLow = s.resetLow :=
  State.resetLow_of_still (giveProbe_still t s)
@[simp] theorem giveProbe_pending (t : TargetId) (s : State) : (giveProbe t s).pending = s.pending :=
  State.pending_of_still (giveProbe_still t s)
@[simp] theorem undoProbe_ctm (t : TargetId) (s : State) : (undoProbe t s).ctm = s.ctm :=
  State.ctm_of_still (undoProbe_still t s)
@[simp] theorem undoProbe_agu (t : TargetId) (s : State) : (undoProbe t s).agu = s.agu :=
  State.agu_of_still (undoProbe_still t s)
@[simp] theorem undoProbe_resetLow (t : TargetId) (s : State) : (undoProbe t s).resetLow = s.resetLow :=
  State.resetLow_of_still (undoProbe_still t s)
@[simp] theorem undoProbe_pending (t : TargetId) (s : State) : (undoProbe t s).pending = s.pending :=
  State.pending_of_still (undoProbe_still t s)
@[simp] theorem handProbe_ctm (t : TargetId) (s : State) : (handProbe t s).ctm = s.ctm :=
  State.ctm_of_still (handProbe_still t s)
@[simp] theorem handProbe_agu (t : TargetId) (s : State) : (handProbe t s).agu = s.agu :=
  State.agu_of_still (handProbe_still t s)
@[simp] theorem handProbe_resetLow (t : TargetId) (s : State) : (handProbe t s).resetLow = s.resetLow :=
  State.resetLow_of_still (handProbe_still t s)
@[simp] theorem handProbe_pending (t : TargetId) (s : State) : (handProbe t s).pending = s.pending :=
  State.pending_of_still (handProbe_still t s)
@[simp] theorem postRequestDone_ctm (h : HostId) (r : Request) (st : ReqStatus) (v : Word) (s : State) : (postRequestDone h r st v s).ctm = s.ctm :=
  State.ctm_of_still (postRequestDone_still h r st v s)
@[simp] theorem postRequestDone_agu (h : HostId) (r : Request) (st : ReqStatus) (v : Word) (s : State) : (postRequestDone h r st v s).agu = s.agu :=
  State.agu_of_still (postRequestDone_still h r st v s)
@[simp] theorem postRequestDone_resetLow (h : HostId) (r : Request) (st : ReqStatus) (v : Word) (s : State) : (postRequestDone h r st v s).resetLow = s.resetLow :=
  State.resetLow_of_still (postRequestDone_still h r st v s)
@[simp] theorem postRequestDone_pending (h : HostId) (r : Request) (st : ReqStatus) (v : Word) (s : State) : (postRequestDone h r st v s).pending = s.pending :=
  State.pending_of_still (postRequestDone_still h r st v s)
@[simp] theorem endHead_ctm (h : HostId) (r : Request) (s : State) : (endHead h r s).ctm = s.ctm :=
  State.ctm_of_still (endHead_still h r s)
@[simp] theorem endHead_agu (h : HostId) (r : Request) (s : State) : (endHead h r s).agu = s.agu :=
  State.agu_of_still (endHead_still h r s)
@[simp] theorem endHead_resetLow (h : HostId) (r : Request) (s : State) : (endHead h r s).resetLow = s.resetLow :=
  State.resetLow_of_still (endHead_still h r s)
@[simp] theorem endHead_pending (h : HostId) (r : Request) (s : State) : (endHead h r s).pending = s.pending :=
  State.pending_of_still (endHead_still h r s)
@[simp] theorem skipProbe_ctm (s : State) : (skipProbe s).ctm = s.ctm :=
  State.ctm_of_still (skipProbe_still s)
@[simp] theorem skipProbe_agu (s : State) : (skipProbe s).agu = s.agu :=
  State.agu_of_still (skipProbe_still s)
@[simp] theorem skipProbe_resetLow (s : State) : (skipProbe s).resetLow = s.resetLow :=
  State.resetLow_of_still (skipProbe_still s)
@[simp] theorem skipProbe_pending (s : State) : (skipProbe s).pending = s.pending :=
  State.pending_of_still (skipProbe_still s)
@[simp] theorem choiceLoop_ctm (n : Nat) (s : State) : (choiceLoop n s).ctm = s.ctm :=
  State.ctm_of_still (choiceLoop_still n s)
@[simp] theorem choiceLoop_agu (n : Nat) (s : State) : (choiceLoop n s).agu = s.agu :=
  State.agu_of_still (choiceLoop_still n s)
@[simp] theorem choiceLoop_resetLow (n : Nat) (s : State) : (choiceLoop n s).resetLow = s.resetLow :=
  State.resetLow_of_still (choiceLoop_still n s)
@[simp] theorem choiceLoop_pending (n : Nat) (s : State) : (choiceLoop n s).pending = s.pending :=
  State.pending_of_still (choiceLoop_still n s)
@[simp] theorem choice_ctm (s : State) : (choice s).ctm = s.ctm :=
  State.ctm_of_still (choice_still s)
@[simp] theorem choice_agu (s : State) : (choice s).agu = s.agu :=
  State.agu_of_still (choice_still s)
@[simp] theorem choice_resetLow (s : State) : (choice s).resetLow = s.resetLow :=
  State.resetLow_of_still (choice_still s)
@[simp] theorem choice_pending (s : State) : (choice s).pending = s.pending :=
  State.pending_of_still (choice_still s)
@[simp] theorem submit_ctm (h : HostId) (c : Captured) (s : State) : ((submit h c s).1).ctm = s.ctm :=
  State.ctm_of_still (submit_still h c s)
@[simp] theorem submit_agu (h : HostId) (c : Captured) (s : State) : ((submit h c s).1).agu = s.agu :=
  State.agu_of_still (submit_still h c s)
@[simp] theorem submit_resetLow (h : HostId) (c : Captured) (s : State) : ((submit h c s).1).resetLow = s.resetLow :=
  State.resetLow_of_still (submit_still h c s)
@[simp] theorem submit_pending (h : HostId) (c : Captured) (s : State) : ((submit h c s).1).pending = s.pending :=
  State.pending_of_still (submit_still h c s)
@[simp] theorem cancel_ctm (h : HostId) (c : Captured) (s : State) : ((cancel h c s).1).ctm = s.ctm :=
  State.ctm_of_still (cancel_still h c s)
@[simp] theorem cancel_agu (h : HostId) (c : Captured) (s : State) : ((cancel h c s).1).agu = s.agu :=
  State.agu_of_still (cancel_still h c s)
@[simp] theorem cancel_resetLow (h : HostId) (c : Captured) (s : State) : ((cancel h c s).1).resetLow = s.resetLow :=
  State.resetLow_of_still (cancel_still h c s)
@[simp] theorem cancel_pending (h : HostId) (c : Captured) (s : State) : ((cancel h c s).1).pending = s.pending :=
  State.pending_of_still (cancel_still h c s)
@[simp] theorem queryQueue_ctm (h : HostId) (s : State) : ((queryQueue h s).1).ctm = s.ctm :=
  State.ctm_of_still (queryQueue_still h s)
@[simp] theorem queryQueue_agu (h : HostId) (s : State) : ((queryQueue h s).1).agu = s.agu :=
  State.agu_of_still (queryQueue_still h s)
@[simp] theorem queryQueue_resetLow (h : HostId) (s : State) : ((queryQueue h s).1).resetLow = s.resetLow :=
  State.resetLow_of_still (queryQueue_still h s)
@[simp] theorem queryQueue_pending (h : HostId) (s : State) : ((queryQueue h s).1).pending = s.pending :=
  State.pending_of_still (queryQueue_still h s)
@[simp] theorem otaLeave_ctm (h : HostId) (s : State) : (otaLeave h s).ctm = s.ctm :=
  State.ctm_of_still (otaLeave_still h s)
@[simp] theorem otaLeave_agu (h : HostId) (s : State) : (otaLeave h s).agu = s.agu :=
  State.agu_of_still (otaLeave_still h s)
@[simp] theorem otaLeave_resetLow (h : HostId) (s : State) : (otaLeave h s).resetLow = s.resetLow :=
  State.resetLow_of_still (otaLeave_still h s)
@[simp] theorem otaLeave_pending (h : HostId) (s : State) : (otaLeave h s).pending = s.pending :=
  State.pending_of_still (otaLeave_still h s)
@[simp] theorem deadlineStep_ctm (h : HostId) (s : State) : (deadlineStep h s).ctm = s.ctm :=
  State.ctm_of_still (deadlineStep_still h s)
@[simp] theorem deadlineStep_agu (h : HostId) (s : State) : (deadlineStep h s).agu = s.agu :=
  State.agu_of_still (deadlineStep_still h s)
@[simp] theorem deadlineStep_resetLow (h : HostId) (s : State) : (deadlineStep h s).resetLow = s.resetLow :=
  State.resetLow_of_still (deadlineStep_still h s)
@[simp] theorem deadlineStep_pending (h : HostId) (s : State) : (deadlineStep h s).pending = s.pending :=
  State.pending_of_still (deadlineStep_still h s)
@[simp] theorem otaReact_ctm (s : State) : (otaReact s).ctm = s.ctm :=
  State.ctm_of_still (otaReact_still s)
@[simp] theorem otaReact_agu (s : State) : (otaReact s).agu = s.agu :=
  State.agu_of_still (otaReact_still s)
@[simp] theorem otaReact_resetLow (s : State) : (otaReact s).resetLow = s.resetLow :=
  State.resetLow_of_still (otaReact_still s)
@[simp] theorem otaReact_pending (s : State) : (otaReact s).pending = s.pending :=
  State.pending_of_still (otaReact_still s)
@[simp] theorem expireOne_ctm (s : State) : (expireOne s).ctm = s.ctm :=
  State.ctm_of_still (expireOne_still s)
@[simp] theorem expireOne_agu (s : State) : (expireOne s).agu = s.agu :=
  State.agu_of_still (expireOne_still s)
@[simp] theorem expireOne_resetLow (s : State) : (expireOne s).resetLow = s.resetLow :=
  State.resetLow_of_still (expireOne_still s)
@[simp] theorem expireOne_pending (s : State) : (expireOne s).pending = s.pending :=
  State.pending_of_still (expireOne_still s)
@[simp] theorem becomeIdle_ctm (s : State) : (becomeIdle s).ctm = s.ctm :=
  State.ctm_of_still (becomeIdle_still s)
@[simp] theorem becomeIdle_agu (s : State) : (becomeIdle s).agu = s.agu :=
  State.agu_of_still (becomeIdle_still s)
@[simp] theorem becomeIdle_resetLow (s : State) : (becomeIdle s).resetLow = s.resetLow :=
  State.resetLow_of_still (becomeIdle_still s)
@[simp] theorem becomeIdle_pending (s : State) : (becomeIdle s).pending = s.pending :=
  State.pending_of_still (becomeIdle_still s)
@[simp] theorem storeWord_ctm (c : RunCopy) (w : Word) (s : State) : (storeWord c w s).ctm = s.ctm :=
  State.ctm_of_still (storeWord_still c w s)
@[simp] theorem storeWord_agu (c : RunCopy) (w : Word) (s : State) : (storeWord c w s).agu = s.agu :=
  State.agu_of_still (storeWord_still c w s)
@[simp] theorem storeWord_resetLow (c : RunCopy) (w : Word) (s : State) : (storeWord c w s).resetLow = s.resetLow :=
  State.resetLow_of_still (storeWord_still c w s)
@[simp] theorem storeWord_pending (c : RunCopy) (w : Word) (s : State) : (storeWord c w s).pending = s.pending :=
  State.pending_of_still (storeWord_still c w s)
@[simp] theorem takeStart_ctm (c : RunCopy) (s : State) : (takeStart c s).ctm = s.ctm :=
  State.ctm_of_still (takeStart_still c s)
@[simp] theorem takeStart_agu (c : RunCopy) (s : State) : (takeStart c s).agu = s.agu :=
  State.agu_of_still (takeStart_still c s)
@[simp] theorem takeStart_resetLow (c : RunCopy) (s : State) : (takeStart c s).resetLow = s.resetLow :=
  State.resetLow_of_still (takeStart_still c s)
@[simp] theorem takeStart_pending (c : RunCopy) (s : State) : (takeStart c s).pending = s.pending :=
  State.pending_of_still (takeStart_still c s)
@[simp] theorem nextStart_ctm (s : State) : (nextStart s).ctm = s.ctm :=
  State.ctm_of_still (nextStart_still s)
@[simp] theorem nextStart_agu (s : State) : (nextStart s).agu = s.agu :=
  State.agu_of_still (nextStart_still s)
@[simp] theorem nextStart_resetLow (s : State) : (nextStart s).resetLow = s.resetLow :=
  State.resetLow_of_still (nextStart_still s)
@[simp] theorem nextStart_pending (s : State) : (nextStart s).pending = s.pending :=
  State.pending_of_still (nextStart_still s)
@[simp] theorem endWindow_ctm (st : WindowStatus) (c : RunCopy) (s : State) : (endWindow st c s).ctm = s.ctm :=
  State.ctm_of_still (endWindow_still st c s)
@[simp] theorem endWindow_agu (st : WindowStatus) (c : RunCopy) (s : State) : (endWindow st c s).agu = s.agu :=
  State.agu_of_still (endWindow_still st c s)
@[simp] theorem endWindow_resetLow (st : WindowStatus) (c : RunCopy) (s : State) : (endWindow st c s).resetLow = s.resetLow :=
  State.resetLow_of_still (endWindow_still st c s)
@[simp] theorem endWindow_pending (st : WindowStatus) (c : RunCopy) (s : State) : (endWindow st c s).pending = s.pending :=
  State.pending_of_still (endWindow_still st c s)
@[simp] theorem windowNext_ctm (c : RunCopy) (s : State) : (windowNext c s).ctm = s.ctm :=
  State.ctm_of_still (windowNext_still c s)
@[simp] theorem windowNext_agu (c : RunCopy) (s : State) : (windowNext c s).agu = s.agu :=
  State.agu_of_still (windowNext_still c s)
@[simp] theorem windowNext_resetLow (c : RunCopy) (s : State) : (windowNext c s).resetLow = s.resetLow :=
  State.resetLow_of_still (windowNext_still c s)
@[simp] theorem windowNext_pending (c : RunCopy) (s : State) : (windowNext c s).pending = s.pending :=
  State.pending_of_still (windowNext_still c s)
@[simp] theorem windowAccessEnd_ctm (c : RunCopy) (b : Bool) (w : Word) (s : State) : (windowAccessEnd c b w s).ctm = s.ctm :=
  State.ctm_of_still (windowAccessEnd_still c b w s)
@[simp] theorem windowAccessEnd_agu (c : RunCopy) (b : Bool) (w : Word) (s : State) : (windowAccessEnd c b w s).agu = s.agu :=
  State.agu_of_still (windowAccessEnd_still c b w s)
@[simp] theorem windowAccessEnd_resetLow (c : RunCopy) (b : Bool) (w : Word) (s : State) : (windowAccessEnd c b w s).resetLow = s.resetLow :=
  State.resetLow_of_still (windowAccessEnd_still c b w s)
@[simp] theorem windowAccessEnd_pending (c : RunCopy) (b : Bool) (w : Word) (s : State) : (windowAccessEnd c b w s).pending = s.pending :=
  State.pending_of_still (windowAccessEnd_still c b w s)
@[simp] theorem closeRequest_ctm (r : RunningReq) (st : ReqStatus) (s : State) : (closeRequest r st s).ctm = s.ctm :=
  State.ctm_of_still (closeRequest_still r st s)
@[simp] theorem closeRequest_agu (r : RunningReq) (st : ReqStatus) (s : State) : (closeRequest r st s).agu = s.agu :=
  State.agu_of_still (closeRequest_still r st s)
@[simp] theorem closeRequest_resetLow (r : RunningReq) (st : ReqStatus) (s : State) : (closeRequest r st s).resetLow = s.resetLow :=
  State.resetLow_of_still (closeRequest_still r st s)
@[simp] theorem closeRequest_pending (r : RunningReq) (st : ReqStatus) (s : State) : (closeRequest r st s).pending = s.pending :=
  State.pending_of_still (closeRequest_still r st s)
@[simp] theorem endRequest_ctm (r : RunningReq) (st : ReqStatus) (s : State) : (endRequest r st s).ctm = s.ctm :=
  State.ctm_of_still (endRequest_still r st s)
@[simp] theorem endRequest_agu (r : RunningReq) (st : ReqStatus) (s : State) : (endRequest r st s).agu = s.agu :=
  State.agu_of_still (endRequest_still r st s)
@[simp] theorem endRequest_resetLow (r : RunningReq) (st : ReqStatus) (s : State) : (endRequest r st s).resetLow = s.resetLow :=
  State.resetLow_of_still (endRequest_still r st s)
@[simp] theorem endRequest_pending (r : RunningReq) (st : ReqStatus) (s : State) : (endRequest r st s).pending = s.pending :=
  State.pending_of_still (endRequest_still r st s)
@[simp] theorem requestNext_ctm (r : RunningReq) (s : State) : (requestNext r s).ctm = s.ctm :=
  State.ctm_of_still (requestNext_still r s)
@[simp] theorem requestNext_agu (r : RunningReq) (s : State) : (requestNext r s).agu = s.agu :=
  State.agu_of_still (requestNext_still r s)
@[simp] theorem requestNext_resetLow (r : RunningReq) (s : State) : (requestNext r s).resetLow = s.resetLow :=
  State.resetLow_of_still (requestNext_still r s)
@[simp] theorem requestNext_pending (r : RunningReq) (s : State) : (requestNext r s).pending = s.pending :=
  State.pending_of_still (requestNext_still r s)
@[simp] theorem storeRequestWord_ctm (r : RunningReq) (w : Word) (s : State) : (storeRequestWord r w s).ctm = s.ctm :=
  State.ctm_of_still (storeRequestWord_still r w s)
@[simp] theorem storeRequestWord_agu (r : RunningReq) (w : Word) (s : State) : (storeRequestWord r w s).agu = s.agu :=
  State.agu_of_still (storeRequestWord_still r w s)
@[simp] theorem storeRequestWord_resetLow (r : RunningReq) (w : Word) (s : State) : (storeRequestWord r w s).resetLow = s.resetLow :=
  State.resetLow_of_still (storeRequestWord_still r w s)
@[simp] theorem storeRequestWord_pending (r : RunningReq) (w : Word) (s : State) : (storeRequestWord r w s).pending = s.pending :=
  State.pending_of_still (storeRequestWord_still r w s)
@[simp] theorem requestAccessEnd_ctm (r : RunningReq) (b : Bool) (w : Word) (s : State) : (requestAccessEnd r b w s).ctm = s.ctm :=
  State.ctm_of_still (requestAccessEnd_still r b w s)
@[simp] theorem requestAccessEnd_agu (r : RunningReq) (b : Bool) (w : Word) (s : State) : (requestAccessEnd r b w s).agu = s.agu :=
  State.agu_of_still (requestAccessEnd_still r b w s)
@[simp] theorem requestAccessEnd_resetLow (r : RunningReq) (b : Bool) (w : Word) (s : State) : (requestAccessEnd r b w s).resetLow = s.resetLow :=
  State.resetLow_of_still (requestAccessEnd_still r b w s)
@[simp] theorem requestAccessEnd_pending (r : RunningReq) (b : Bool) (w : Word) (s : State) : (requestAccessEnd r b w s).pending = s.pending :=
  State.pending_of_still (requestAccessEnd_still r b w s)
@[simp] theorem closeProbe_ctm (s : State) : (closeProbe s).ctm = s.ctm :=
  State.ctm_of_still (closeProbe_still s)
@[simp] theorem closeProbe_agu (s : State) : (closeProbe s).agu = s.agu :=
  State.agu_of_still (closeProbe_still s)
@[simp] theorem closeProbe_resetLow (s : State) : (closeProbe s).resetLow = s.resetLow :=
  State.resetLow_of_still (closeProbe_still s)
@[simp] theorem closeProbe_pending (s : State) : (closeProbe s).pending = s.pending :=
  State.pending_of_still (closeProbe_still s)
@[simp] theorem returnProbe_ctm (t : TargetId) (s : State) : (returnProbe t s).ctm = s.ctm :=
  State.ctm_of_still (returnProbe_still t s)
@[simp] theorem returnProbe_agu (t : TargetId) (s : State) : (returnProbe t s).agu = s.agu :=
  State.agu_of_still (returnProbe_still t s)
@[simp] theorem returnProbe_resetLow (t : TargetId) (s : State) : (returnProbe t s).resetLow = s.resetLow :=
  State.resetLow_of_still (returnProbe_still t s)
@[simp] theorem returnProbe_pending (t : TargetId) (s : State) : (returnProbe t s).pending = s.pending :=
  State.pending_of_still (returnProbe_still t s)
@[simp] theorem withdrawOpen_ctm (s : State) : (withdrawOpen s).ctm = s.ctm :=
  State.ctm_of_still (withdrawOpen_still s)
@[simp] theorem withdrawOpen_agu (s : State) : (withdrawOpen s).agu = s.agu :=
  State.agu_of_still (withdrawOpen_still s)
@[simp] theorem withdrawOpen_resetLow (s : State) : (withdrawOpen s).resetLow = s.resetLow :=
  State.resetLow_of_still (withdrawOpen_still s)
@[simp] theorem withdrawOpen_pending (s : State) : (withdrawOpen s).pending = s.pending :=
  State.pending_of_still (withdrawOpen_still s)
@[simp] theorem displacePending_ctm (s : State) : (displacePending s).ctm = s.ctm :=
  State.ctm_of_still (displacePending_still s)
@[simp] theorem displacePending_agu (s : State) : (displacePending s).agu = s.agu :=
  State.agu_of_still (displacePending_still s)
@[simp] theorem displacePending_resetLow (s : State) : (displacePending s).resetLow = s.resetLow :=
  State.resetLow_of_still (displacePending_still s)
@[simp] theorem displacePending_pending (s : State) : (displacePending s).pending = s.pending :=
  State.pending_of_still (displacePending_still s)
@[simp] theorem holdStart_ctm (c : RunCopy) (s : State) : (holdStart c s).ctm = s.ctm :=
  State.ctm_of_still (holdStart_still c s)
@[simp] theorem holdStart_agu (c : RunCopy) (s : State) : (holdStart c s).agu = s.agu :=
  State.agu_of_still (holdStart_still c s)
@[simp] theorem holdStart_resetLow (c : RunCopy) (s : State) : (holdStart c s).resetLow = s.resetLow :=
  State.resetLow_of_still (holdStart_still c s)
@[simp] theorem holdStart_pending (c : RunCopy) (s : State) : (holdStart c s).pending = s.pending :=
  State.pending_of_still (holdStart_still c s)
@[simp] theorem engineStart_ctm (c : RunCopy) (s : State) : (engineStart c s).ctm = s.ctm :=
  State.ctm_of_still (engineStart_still c s)
@[simp] theorem engineStart_agu (c : RunCopy) (s : State) : (engineStart c s).agu = s.agu :=
  State.agu_of_still (engineStart_still c s)
@[simp] theorem engineStart_resetLow (c : RunCopy) (s : State) : (engineStart c s).resetLow = s.resetLow :=
  State.resetLow_of_still (engineStart_still c s)
@[simp] theorem engineStart_pending (c : RunCopy) (s : State) : (engineStart c s).pending = s.pending :=
  State.pending_of_still (engineStart_still c s)
@[simp] theorem announceStart_ctm (s : State) : (announceStart s).ctm = s.ctm :=
  State.ctm_of_still (announceStart_still s)
@[simp] theorem announceStart_agu (s : State) : (announceStart s).agu = s.agu :=
  State.agu_of_still (announceStart_still s)
@[simp] theorem announceStart_resetLow (s : State) : (announceStart s).resetLow = s.resetLow :=
  State.resetLow_of_still (announceStart_still s)
@[simp] theorem announceStart_pending (s : State) : (announceStart s).pending = s.pending :=
  State.pending_of_still (announceStart_still s)
@[simp] theorem takeEndTime_ctm (s : State) : (takeEndTime s).ctm = s.ctm :=
  State.ctm_of_still (takeEndTime_still s)
@[simp] theorem takeEndTime_agu (s : State) : (takeEndTime s).agu = s.agu :=
  State.agu_of_still (takeEndTime_still s)
@[simp] theorem takeEndTime_resetLow (s : State) : (takeEndTime s).resetLow = s.resetLow :=
  State.resetLow_of_still (takeEndTime_still s)
@[simp] theorem takeEndTime_pending (s : State) : (takeEndTime s).pending = s.pending :=
  State.pending_of_still (takeEndTime_still s)
@[simp] theorem takeOpenEnd_ctm (s : State) : (takeOpenEnd s).ctm = s.ctm :=
  State.ctm_of_still (takeOpenEnd_still s)
@[simp] theorem takeOpenEnd_agu (s : State) : (takeOpenEnd s).agu = s.agu :=
  State.agu_of_still (takeOpenEnd_still s)
@[simp] theorem takeOpenEnd_resetLow (s : State) : (takeOpenEnd s).resetLow = s.resetLow :=
  State.resetLow_of_still (takeOpenEnd_still s)
@[simp] theorem takeOpenEnd_pending (s : State) : (takeOpenEnd s).pending = s.pending :=
  State.pending_of_still (takeOpenEnd_still s)
@[simp] theorem accessEnds_ctm (w : Word) (s : State) : (accessEnds w s).ctm = s.ctm :=
  State.ctm_of_still (accessEnds_still w s)
@[simp] theorem accessEnds_agu (w : Word) (s : State) : (accessEnds w s).agu = s.agu :=
  State.agu_of_still (accessEnds_still w s)
@[simp] theorem accessEnds_resetLow (w : Word) (s : State) : (accessEnds w s).resetLow = s.resetLow :=
  State.resetLow_of_still (accessEnds_still w s)
@[simp] theorem accessEnds_pending (w : Word) (s : State) : (accessEnds w s).pending = s.pending :=
  State.pending_of_still (accessEnds_still w s)
@[simp] theorem clearHold_ctm (s : State) : (clearHold s).ctm = s.ctm :=
  State.ctm_of_still (clearHold_still s)
@[simp] theorem clearHold_agu (s : State) : (clearHold s).agu = s.agu :=
  State.agu_of_still (clearHold_still s)
@[simp] theorem clearHold_resetLow (s : State) : (clearHold s).resetLow = s.resetLow :=
  State.resetLow_of_still (clearHold_still s)
@[simp] theorem clearHold_pending (s : State) : (clearHold s).pending = s.pending :=
  State.pending_of_still (clearHold_still s)
@[simp] theorem queryTimebase_ctm (s : State) : ((queryTimebase s).1).ctm = s.ctm :=
  State.ctm_of_still (queryTimebase_still s)
@[simp] theorem queryTimebase_agu (s : State) : ((queryTimebase s).1).agu = s.agu :=
  State.agu_of_still (queryTimebase_still s)
@[simp] theorem queryTimebase_resetLow (s : State) : ((queryTimebase s).1).resetLow = s.resetLow :=
  State.resetLow_of_still (queryTimebase_still s)
@[simp] theorem queryTimebase_pending (s : State) : ((queryTimebase s).1).pending = s.pending :=
  State.pending_of_still (queryTimebase_still s)
@[simp] theorem targetRestore_ctm (h : HostId) (c : Captured) (s : State) : ((targetRestore h c s).1).ctm = s.ctm :=
  State.ctm_of_still (targetRestore_still h c s)
@[simp] theorem targetRestore_agu (h : HostId) (c : Captured) (s : State) : ((targetRestore h c s).1).agu = s.agu :=
  State.agu_of_still (targetRestore_still h c s)
@[simp] theorem targetRestore_resetLow (h : HostId) (c : Captured) (s : State) : ((targetRestore h c s).1).resetLow = s.resetLow :=
  State.resetLow_of_still (targetRestore_still h c s)
@[simp] theorem targetRestore_pending (h : HostId) (c : Captured) (s : State) : ((targetRestore h c s).1).pending = s.pending :=
  State.pending_of_still (targetRestore_still h c s)
@[simp] theorem portLeave_ctm (h : HostId) (s : State) : (portLeave h s).ctm = s.ctm :=
  State.ctm_of_still (portLeave_still h s)
@[simp] theorem portLeave_agu (h : HostId) (s : State) : (portLeave h s).agu = s.agu :=
  State.agu_of_still (portLeave_still h s)
@[simp] theorem portLeave_resetLow (h : HostId) (s : State) : (portLeave h s).resetLow = s.resetLow :=
  State.resetLow_of_still (portLeave_still h s)
@[simp] theorem portLeave_pending (h : HostId) (s : State) : (portLeave h s).pending = s.pending :=
  State.pending_of_still (portLeave_still h s)
@[simp] theorem ctmLeave_ctm (h : HostId) (s : State) : (ctmLeave h s).ctm = s.ctm :=
  State.ctm_of_still (ctmLeave_still h s)
@[simp] theorem ctmLeave_agu (h : HostId) (s : State) : (ctmLeave h s).agu = s.agu :=
  State.agu_of_still (ctmLeave_still h s)
@[simp] theorem ctmLeave_resetLow (h : HostId) (s : State) : (ctmLeave h s).resetLow = s.resetLow :=
  State.resetLow_of_still (ctmLeave_still h s)
@[simp] theorem ctmLeave_pending (h : HostId) (s : State) : (ctmLeave h s).pending = s.pending :=
  State.pending_of_still (ctmLeave_still h s)
@[simp] theorem answer_ctm (p : HostId) (r : Reply) (s : State) : (answer p r s).ctm = s.ctm :=
  State.ctm_of_still (answer_still p r s)
@[simp] theorem answer_agu (p : HostId) (r : Reply) (s : State) : (answer p r s).agu = s.agu :=
  State.agu_of_still (answer_still p r s)
@[simp] theorem answer_resetLow (p : HostId) (r : Reply) (s : State) : (answer p r s).resetLow = s.resetLow :=
  State.resetLow_of_still (answer_still p r s)
@[simp] theorem answer_pending (p : HostId) (r : Reply) (s : State) : (answer p r s).pending = s.pending :=
  State.pending_of_still (answer_still p r s)
@[simp] theorem releaseMarks_ctm (s : State) : (releaseMarks s).ctm = s.ctm :=
  State.ctm_of_still (releaseMarks_still s)
@[simp] theorem releaseMarks_agu (s : State) : (releaseMarks s).agu = s.agu :=
  State.agu_of_still (releaseMarks_still s)
@[simp] theorem releaseMarks_resetLow (s : State) : (releaseMarks s).resetLow = s.resetLow :=
  State.resetLow_of_still (releaseMarks_still s)
@[simp] theorem releaseMarks_pending (s : State) : (releaseMarks s).pending = s.pending :=
  State.pending_of_still (releaseMarks_still s)
@[simp] theorem assertMarks_ctm (s : State) : (assertMarks s).ctm = s.ctm :=
  State.ctm_of_still (assertMarks_still s)
@[simp] theorem assertMarks_agu (s : State) : (assertMarks s).agu = s.agu :=
  State.agu_of_still (assertMarks_still s)
@[simp] theorem assertMarks_resetLow (s : State) : (assertMarks s).resetLow = s.resetLow :=
  State.resetLow_of_still (assertMarks_still s)
@[simp] theorem assertMarks_pending (s : State) : (assertMarks s).pending = s.pending :=
  State.pending_of_still (assertMarks_still s)
@[simp] theorem wtuBoundary_ctm (s : State) : (wtuBoundary s).ctm = s.ctm :=
  State.ctm_of_still (wtuBoundary_still s)
@[simp] theorem wtuBoundary_agu (s : State) : (wtuBoundary s).agu = s.agu :=
  State.agu_of_still (wtuBoundary_still s)
@[simp] theorem wtuBoundary_resetLow (s : State) : (wtuBoundary s).resetLow = s.resetLow :=
  State.resetLow_of_still (wtuBoundary_still s)
@[simp] theorem wtuBoundary_pending (s : State) : (wtuBoundary s).pending = s.pending :=
  State.pending_of_still (wtuBoundary_still s)
@[simp] theorem otaBoundary_ctm (s : State) : (otaBoundary s).ctm = s.ctm :=
  State.ctm_of_still (otaBoundary_still s)
@[simp] theorem otaBoundary_agu (s : State) : (otaBoundary s).agu = s.agu :=
  State.agu_of_still (otaBoundary_still s)
@[simp] theorem otaBoundary_resetLow (s : State) : (otaBoundary s).resetLow = s.resetLow :=
  State.resetLow_of_still (otaBoundary_still s)
@[simp] theorem otaBoundary_pending (s : State) : (otaBoundary s).pending = s.pending :=
  State.pending_of_still (otaBoundary_still s)
@[simp] theorem accessPeriod_ctm (s : State) : ((accessPeriod s).1).ctm = s.ctm :=
  State.ctm_of_still (accessPeriod_still s)
@[simp] theorem accessPeriod_agu (s : State) : ((accessPeriod s).1).agu = s.agu :=
  State.agu_of_still (accessPeriod_still s)
@[simp] theorem accessPeriod_resetLow (s : State) : ((accessPeriod s).1).resetLow = s.resetLow :=
  State.resetLow_of_still (accessPeriod_still s)
@[simp] theorem accessPeriod_pending (s : State) : ((accessPeriod s).1).pending = s.pending :=
  State.pending_of_still (accessPeriod_still s)
@[simp] theorem endAccessIf_ctm (b : Bool) (s : State) : (endAccessIf b s).ctm = s.ctm :=
  State.ctm_of_still (endAccessIf_still b s)
@[simp] theorem endAccessIf_agu (b : Bool) (s : State) : (endAccessIf b s).agu = s.agu :=
  State.agu_of_still (endAccessIf_still b s)
@[simp] theorem endAccessIf_resetLow (b : Bool) (s : State) : (endAccessIf b s).resetLow = s.resetLow :=
  State.resetLow_of_still (endAccessIf_still b s)
@[simp] theorem endAccessIf_pending (b : Bool) (s : State) : (endAccessIf b s).pending = s.pending :=
  State.pending_of_still (endAccessIf_still b s)

@[simp] theorem post_ctm (h : HostId) (e : Event) (s : State) : (post h e s).ctm = s.ctm := by rw [post_frame]
@[simp] theorem post_wtu (h : HostId) (e : Event) (s : State) : (post h e s).wtu = s.wtu := by rw [post_frame]
@[simp] theorem post_agu (h : HostId) (e : Event) (s : State) : (post h e s).agu = s.agu := by rw [post_frame]
@[simp] theorem post_rgm (h : HostId) (e : Event) (s : State) : (post h e s).rgm = s.rgm := by rw [post_frame]
@[simp] theorem post_txe (h : HostId) (e : Event) (s : State) : (post h e s).txe = s.txe := by rw [post_frame]
@[simp] theorem post_ota (h : HostId) (e : Event) (s : State) : (post h e s).ota = s.ota := by rw [post_frame]
@[simp] theorem post_tbi (h : HostId) (e : Event) (s : State) : (post h e s).tbi = s.tbi := by rw [post_frame]
@[simp] theorem post_resetLow (h : HostId) (e : Event) (s : State) : (post h e s).resetLow = s.resetLow := by rw [post_frame]
@[simp] theorem post_sample (h : HostId) (e : Event) (s : State) : (post h e s).sample = s.sample := by rw [post_frame]
@[simp] theorem post_pending (h : HostId) (e : Event) (s : State) : (post h e s).pending = s.pending := by rw [post_frame]
@[simp] theorem postAll_ctm (e : Event) (s : State) : (postAll e s).ctm = s.ctm := by rw [postAll_frame]
@[simp] theorem postAll_wtu (e : Event) (s : State) : (postAll e s).wtu = s.wtu := by rw [postAll_frame]
@[simp] theorem postAll_agu (e : Event) (s : State) : (postAll e s).agu = s.agu := by rw [postAll_frame]
@[simp] theorem postAll_rgm (e : Event) (s : State) : (postAll e s).rgm = s.rgm := by rw [postAll_frame]
@[simp] theorem postAll_txe (e : Event) (s : State) : (postAll e s).txe = s.txe := by rw [postAll_frame]
@[simp] theorem postAll_ota (e : Event) (s : State) : (postAll e s).ota = s.ota := by rw [postAll_frame]
@[simp] theorem postAll_tbi (e : Event) (s : State) : (postAll e s).tbi = s.tbi := by rw [postAll_frame]
@[simp] theorem postAll_resetLow (e : Event) (s : State) : (postAll e s).resetLow = s.resetLow := by rw [postAll_frame]
@[simp] theorem postAll_sample (e : Event) (s : State) : (postAll e s).sample = s.sample := by rw [postAll_frame]
@[simp] theorem postAll_pending (e : Event) (s : State) : (postAll e s).pending = s.pending := by rw [postAll_frame]
@[simp] theorem postTo_ctm (hs : HostSet) (e : Event) (s : State) : (postTo hs e s).ctm = s.ctm := by rw [postTo_frame]
@[simp] theorem postTo_wtu (hs : HostSet) (e : Event) (s : State) : (postTo hs e s).wtu = s.wtu := by rw [postTo_frame]
@[simp] theorem postTo_agu (hs : HostSet) (e : Event) (s : State) : (postTo hs e s).agu = s.agu := by rw [postTo_frame]
@[simp] theorem postTo_rgm (hs : HostSet) (e : Event) (s : State) : (postTo hs e s).rgm = s.rgm := by rw [postTo_frame]
@[simp] theorem postTo_txe (hs : HostSet) (e : Event) (s : State) : (postTo hs e s).txe = s.txe := by rw [postTo_frame]
@[simp] theorem postTo_ota (hs : HostSet) (e : Event) (s : State) : (postTo hs e s).ota = s.ota := by rw [postTo_frame]
@[simp] theorem postTo_tbi (hs : HostSet) (e : Event) (s : State) : (postTo hs e s).tbi = s.tbi := by rw [postTo_frame]
@[simp] theorem postTo_resetLow (hs : HostSet) (e : Event) (s : State) : (postTo hs e s).resetLow = s.resetLow := by rw [postTo_frame]
@[simp] theorem postTo_sample (hs : HostSet) (e : Event) (s : State) : (postTo hs e s).sample = s.sample := by rw [postTo_frame]
@[simp] theorem postTo_pending (hs : HostSet) (e : Event) (s : State) : (postTo hs e s).pending = s.pending := by rw [postTo_frame]

end Sys2Proof.Machine
end

