-- ==== Sys2Proof/Laws/Control.lean ====
section
/-!
SUPPORT. What the Cycle Timer, the Agreement Unit, the ports and the resets of ports leave alone: the level of RST_N and the queue of
commands, and, but for the Cycle Timer's own operations, the Cycle Timer.
-/
namespace Sys2Proof.Machine

@[simp] theorem reportApplied_ctm (s : State) : (reportApplied s).ctm = s.ctm := by
  simp [reportApplied]

@[simp] theorem reportApplied_resetLow (s : State) : (reportApplied s).resetLow = s.resetLow := by
  simp [reportApplied]

@[simp] theorem reportApplied_pending (s : State) : (reportApplied s).pending = s.pending := by
  simp [reportApplied]

@[simp] theorem takeAgreed_ctm (ts : TargetSettings) (s : State) : (takeAgreed ts s).ctm = s.ctm := by
  unfold takeAgreed
  dsimp only
  (repeat' split) <;> simp

@[simp] theorem takeAgreed_resetLow (ts : TargetSettings) (s : State) : (takeAgreed ts s).resetLow = s.resetLow := by
  unfold takeAgreed
  dsimp only
  (repeat' split) <;> simp

@[simp] theorem takeAgreed_pending (ts : TargetSettings) (s : State) : (takeAgreed ts s).pending = s.pending := by
  unfold takeAgreed
  dsimp only
  (repeat' split) <;> simp

@[simp] theorem tbiReact_ctm (s : State) : (tbiReact s).ctm = s.ctm := by
  unfold tbiReact
  dsimp only
  (repeat' split) <;> simp

@[simp] theorem tbiReact_resetLow (s : State) : (tbiReact s).resetLow = s.resetLow := by
  unfold tbiReact
  dsimp only
  (repeat' split) <;> simp

@[simp] theorem tbiReact_pending (s : State) : (tbiReact s).pending = s.pending := by
  unfold tbiReact
  dsimp only
  (repeat' split) <;> simp

@[simp] theorem tbiBoundary_ctm (s : State) : (tbiBoundary s).ctm = s.ctm := by
  unfold tbiBoundary
  (repeat' split) <;> simp

@[simp] theorem tbiBoundary_resetLow (s : State) : (tbiBoundary s).resetLow = s.resetLow := by
  unfold tbiBoundary
  (repeat' split) <;> simp

@[simp] theorem tbiBoundary_pending (s : State) : (tbiBoundary s).pending = s.pending := by
  unfold tbiBoundary
  (repeat' split) <;> simp

@[simp] theorem targetContents_ctm (ts : TargetSettings) (s : State) : (targetContents ts s).ctm = s.ctm := by
  unfold targetContents
  (repeat' split) <;> simp

@[simp] theorem targetContents_resetLow (ts : TargetSettings) (s : State) : (targetContents ts s).resetLow = s.resetLow := by
  unfold targetContents
  (repeat' split) <;> simp

@[simp] theorem targetContents_pending (ts : TargetSettings) (s : State) : (targetContents ts s).pending = s.pending := by
  unfold targetContents
  (repeat' split) <;> simp

@[simp] theorem startCycleZero_resetLow (y : SyncState) (s : State) : (startCycleZero y s).resetLow = s.resetLow := by
  simp [startCycleZero]

@[simp] theorem startCycleZero_pending (y : SyncState) (s : State) : (startCycleZero y s).pending = s.pending := by
  simp [startCycleZero]

@[simp] theorem takeParams_resetLow (p : CycleParams) (s : State) : (takeParams p s).resetLow = s.resetLow := by
  unfold takeParams
  dsimp only
  (repeat' split) <;> simp

@[simp] theorem takeParams_pending (p : CycleParams) (s : State) : (takeParams p s).pending = s.pending := by
  unfold takeParams
  dsimp only
  (repeat' split) <;> simp

@[simp] theorem takeSlot_resetLow (s : State) : (takeSlot s).resetLow = s.resetLow := by
  unfold takeSlot
  (repeat' split) <;> simp

@[simp] theorem takeSlot_pending (s : State) : (takeSlot s).pending = s.pending := by
  unfold takeSlot
  (repeat' split) <;> simp

@[simp] theorem postSync_ctm (y : SyncState) (s : State) : (postSync y s).ctm = s.ctm := by
  unfold postSync
  (repeat' split) <;> simp

@[simp] theorem postSync_resetLow (y : SyncState) (s : State) : (postSync y s).resetLow = s.resetLow := by
  unfold postSync
  (repeat' split) <;> simp

@[simp] theorem postSync_pending (y : SyncState) (s : State) : (postSync y s).pending = s.pending := by
  unfold postSync
  (repeat' split) <;> simp

@[simp] theorem announceBoundary_ctm (s : State) : (announceBoundary s).ctm = s.ctm := by
  simp [announceBoundary]

@[simp] theorem announceBoundary_resetLow (s : State) : (announceBoundary s).resetLow = s.resetLow := by
  simp [announceBoundary]

@[simp] theorem announceBoundary_pending (s : State) : (announceBoundary s).pending = s.pending := by
  simp [announceBoundary]

@[simp] theorem boundary_resetLow (b : BoundaryCause) (s : State) : (boundary b s).resetLow = s.resetLow := by
  simp [boundary]

@[simp] theorem boundary_pending (b : BoundaryCause) (s : State) : (boundary b s).pending = s.pending := by
  simp [boundary]

@[simp] theorem tickEnds_resetLow (s : State) : (tickEnds s).resetLow = s.resetLow := by
  unfold tickEnds
  dsimp only
  (repeat' split) <;> simp

@[simp] theorem tickEnds_pending (s : State) : (tickEnds s).pending = s.pending := by
  unfold tickEnds
  dsimp only
  (repeat' split) <;> simp

@[simp] theorem countEnds_resetLow (s : State) : (countEnds s).resetLow = s.resetLow := by
  unfold countEnds
  (repeat' split) <;> simp

@[simp] theorem countEnds_pending (s : State) : (countEnds s).pending = s.pending := by
  unfold countEnds
  (repeat' split) <;> simp

@[simp] theorem earlyPulse_resetLow (s : State) : (earlyPulse s).resetLow = s.resetLow := by
  unfold earlyPulse
  (repeat' split) <;> simp

@[simp] theorem earlyPulse_pending (s : State) : (earlyPulse s).pending = s.pending := by
  unfold earlyPulse
  (repeat' split) <;> simp

@[simp] theorem cycleZeroBegins_ctm (s : State) : (cycleZeroBegins s).ctm = s.ctm := by
  simp [cycleZeroBegins]

@[simp] theorem cycleZeroBegins_resetLow (s : State) : (cycleZeroBegins s).resetLow = s.resetLow := by
  simp [cycleZeroBegins]

@[simp] theorem cycleZeroBegins_pending (s : State) : (cycleZeroBegins s).pending = s.pending := by
  simp [cycleZeroBegins]

@[simp] theorem syncPulse_resetLow (s : State) : (syncPulse s).resetLow = s.resetLow := by
  unfold syncPulse
  (repeat' split) <;> simp

@[simp] theorem syncPulse_pending (s : State) : (syncPulse s).pending = s.pending := by
  unfold syncPulse
  (repeat' split) <;> simp

@[simp] theorem cycleContents_resetLow (p : CycleParams) (s : State) : (cycleContents p s).resetLow = s.resetLow := by
  unfold cycleContents
  dsimp only
  (repeat' split) <;> simp

@[simp] theorem cycleContents_pending (p : CycleParams) (s : State) : (cycleContents p s).pending = s.pending := by
  unfold cycleContents
  dsimp only
  (repeat' split) <;> simp

@[simp] theorem postOutcome_ctm (r : Proposal) (v : Verdict) (d : Nat) (s : State) : (postOutcome r v d s).ctm = s.ctm := by
  simp [postOutcome]

@[simp] theorem postOutcome_resetLow (r : Proposal) (v : Verdict) (d : Nat) (s : State) : (postOutcome r v d s).resetLow = s.resetLow := by
  simp [postOutcome]

@[simp] theorem postOutcome_pending (r : Proposal) (v : Verdict) (d : Nat) (s : State) : (postOutcome r v d s).pending = s.pending := by
  simp [postOutcome]

@[simp] theorem endProposal_ctm (r : Proposal) (v : Verdict) (d : Nat) (s : State) : (endProposal r v d s).ctm = s.ctm := by
  unfold endProposal
  dsimp only
  (repeat' split) <;> simp

@[simp] theorem endProposal_resetLow (r : Proposal) (v : Verdict) (d : Nat) (s : State) : (endProposal r v d s).resetLow = s.resetLow := by
  unfold endProposal
  dsimp only
  (repeat' split) <;> simp

@[simp] theorem endProposal_pending (r : Proposal) (v : Verdict) (d : Nat) (s : State) : (endProposal r v d s).pending = s.pending := by
  unfold endProposal
  dsimp only
  (repeat' split) <;> simp

@[simp] theorem becomeAgreed_ctm (r : Proposal) (s : State) : (becomeAgreed r s).ctm = s.ctm := by
  simp [becomeAgreed]

@[simp] theorem becomeAgreed_resetLow (r : Proposal) (s : State) : (becomeAgreed r s).resetLow = s.resetLow := by
  simp [becomeAgreed]

@[simp] theorem becomeAgreed_pending (r : Proposal) (s : State) : (becomeAgreed r s).pending = s.pending := by
  simp [becomeAgreed]

@[simp] theorem State.setProposal_ctm (r : Proposal) (s : State) : (s.setProposal r).ctm = s.ctm := by
  simp [State.setProposal]

@[simp] theorem State.setProposal_resetLow (r : Proposal) (s : State) : (s.setProposal r).resetLow = s.resetLow := by
  simp [State.setProposal]

@[simp] theorem State.setProposal_pending (r : Proposal) (s : State) : (s.setProposal r).pending = s.pending := by
  simp [State.setProposal]

@[simp] theorem admitMember_ctm (h : HostId) (s : State) : ((admitMember h s).1).ctm = s.ctm := by
  simp [admitMember]

@[simp] theorem admitMember_resetLow (h : HostId) (s : State) : ((admitMember h s).1).resetLow = s.resetLow := by
  simp [admitMember]

@[simp] theorem admitMember_pending (h : HostId) (s : State) : ((admitMember h s).1).pending = s.pending := by
  simp [admitMember]

@[simp] theorem State.setDeparture_ctm (h : HostId) (d : Option Departure) (s : State) : (s.setDeparture h d).ctm = s.ctm := by
  simp [State.setDeparture]

@[simp] theorem State.setDeparture_resetLow (h : HostId) (d : Option Departure) (s : State) : (s.setDeparture h d).resetLow = s.resetLow := by
  simp [State.setDeparture]

@[simp] theorem State.setDeparture_pending (h : HostId) (d : Option Departure) (s : State) : (s.setDeparture h d).pending = s.pending := by
  simp [State.setDeparture]

@[simp] theorem join_ctm (h : HostId) (s : State) : ((join h s).1).ctm = s.ctm := by
  unfold join
  (repeat' split) <;> simp

@[simp] theorem join_resetLow (h : HostId) (s : State) : ((join h s).1).resetLow = s.resetLow := by
  unfold join
  (repeat' split) <;> simp

@[simp] theorem join_pending (h : HostId) (s : State) : ((join h s).1).pending = s.pending := by
  unfold join
  (repeat' split) <;> simp

@[simp] theorem queryMembers_ctm (h : HostId) (s : State) : ((queryMembers h s).1).ctm = s.ctm := by
  simp [queryMembers]

@[simp] theorem queryMembers_resetLow (h : HostId) (s : State) : ((queryMembers h s).1).resetLow = s.resetLow := by
  simp [queryMembers]

@[simp] theorem queryMembers_pending (h : HostId) (s : State) : ((queryMembers h s).1).pending = s.pending := by
  simp [queryMembers]

@[simp] theorem leaveRules_ctm (h : HostId) (s : State) : (leaveRules h s).ctm = s.ctm := by
  unfold leaveRules
  dsimp only
  (repeat' split) <;> simp

@[simp] theorem leaveRules_resetLow (h : HostId) (s : State) : (leaveRules h s).resetLow = s.resetLow := by
  unfold leaveRules
  dsimp only
  (repeat' split) <;> simp

@[simp] theorem leaveRules_pending (h : HostId) (s : State) : (leaveRules h s).pending = s.pending := by
  unfold leaveRules
  dsimp only
  (repeat' split) <;> simp

@[simp] theorem depart_ctm (h : HostId) (c : LeaveCause) (s : State) : (depart h c s).ctm = s.ctm := by
  simp [depart]

@[simp] theorem depart_resetLow (h : HostId) (c : LeaveCause) (s : State) : (depart h c s).resetLow = s.resetLow := by
  simp [depart]

@[simp] theorem depart_pending (h : HostId) (c : LeaveCause) (s : State) : (depart h c s).pending = s.pending := by
  simp [depart]

@[simp] theorem leave_ctm (h : HostId) (s : State) : ((leave h s).1).ctm = s.ctm := by
  unfold leave
  (repeat' split) <;> simp

@[simp] theorem leave_resetLow (h : HostId) (s : State) : ((leave h s).1).resetLow = s.resetLow := by
  unfold leave
  (repeat' split) <;> simp

@[simp] theorem leave_pending (h : HostId) (s : State) : ((leave h s).1).pending = s.pending := by
  unfold leave
  (repeat' split) <;> simp

@[simp] theorem takeHeldJoin_ctm (h : HostId) (s : State) : (takeHeldJoin h s).ctm = s.ctm := by
  unfold takeHeldJoin
  (repeat' split) <;> simp

@[simp] theorem takeHeldJoin_resetLow (h : HostId) (s : State) : (takeHeldJoin h s).resetLow = s.resetLow := by
  unfold takeHeldJoin
  (repeat' split) <;> simp

@[simp] theorem takeHeldJoin_pending (h : HostId) (s : State) : (takeHeldJoin h s).pending = s.pending := by
  unfold takeHeldJoin
  (repeat' split) <;> simp

@[simp] theorem completeDeparture_ctm (h : HostId) (c : LeaveCause) (s : State) : (completeDeparture h c s).ctm = s.ctm := by
  unfold completeDeparture
  dsimp only
  (repeat' split) <;> simp

@[simp] theorem completeDeparture_resetLow (h : HostId) (c : LeaveCause) (s : State) : (completeDeparture h c s).resetLow = s.resetLow := by
  unfold completeDeparture
  dsimp only
  (repeat' split) <;> simp

@[simp] theorem completeDeparture_pending (h : HostId) (c : LeaveCause) (s : State) : (completeDeparture h c s).pending = s.pending := by
  unfold completeDeparture
  dsimp only
  (repeat' split) <;> simp

@[simp] theorem confirm_ctm (h : HostId) (u : LeaveUnit) (s : State) : (confirm h u s).ctm = s.ctm := by
  unfold confirm
  dsimp only
  (repeat' split) <;> simp

@[simp] theorem confirm_resetLow (h : HostId) (u : LeaveUnit) (s : State) : (confirm h u s).resetLow = s.resetLow := by
  unfold confirm
  dsimp only
  (repeat' split) <;> simp

@[simp] theorem confirm_pending (h : HostId) (u : LeaveUnit) (s : State) : (confirm h u s).pending = s.pending := by
  unfold confirm
  dsimp only
  (repeat' split) <;> simp

@[simp] theorem acceptProposal_ctm (h : HostId) (c : Contents) (e : Nat) (s : State) : ((acceptProposal h c e s).1).ctm = s.ctm := by
  unfold acceptProposal
  dsimp only
  (repeat' split) <;> simp

@[simp] theorem acceptProposal_resetLow (h : HostId) (c : Contents) (e : Nat) (s : State) : ((acceptProposal h c e s).1).resetLow = s.resetLow := by
  unfold acceptProposal
  dsimp only
  (repeat' split) <;> simp

@[simp] theorem acceptProposal_pending (h : HostId) (c : Contents) (e : Nat) (s : State) : ((acceptProposal h c e s).1).pending = s.pending := by
  unfold acceptProposal
  dsimp only
  (repeat' split) <;> simp

@[simp] theorem setLimit_ctm (e : Nat) (s : State) : (setLimit e s).ctm = s.ctm := by
  simp [setLimit]

@[simp] theorem setLimit_resetLow (e : Nat) (s : State) : (setLimit e s).resetLow = s.resetLow := by
  simp [setLimit]

@[simp] theorem setLimit_pending (e : Nat) (s : State) : (setLimit e s).pending = s.pending := by
  simp [setLimit]

@[simp] theorem proposeCycle_ctm (h : HostId) (c : Captured) (s : State) : ((proposeCycle h c s).1).ctm = s.ctm := by
  unfold proposeCycle
  dsimp only
  (repeat' split) <;> simp

@[simp] theorem proposeCycle_resetLow (h : HostId) (c : Captured) (s : State) : ((proposeCycle h c s).1).resetLow = s.resetLow := by
  unfold proposeCycle
  dsimp only
  (repeat' split) <;> simp

@[simp] theorem proposeCycle_pending (h : HostId) (c : Captured) (s : State) : ((proposeCycle h c s).1).pending = s.pending := by
  unfold proposeCycle
  dsimp only
  (repeat' split) <;> simp

@[simp] theorem proposeTarget_ctm (h : HostId) (c : Captured) (s : State) : ((proposeTarget h c s).1).ctm = s.ctm := by
  unfold proposeTarget
  (repeat' split) <;> simp

@[simp] theorem proposeTarget_resetLow (h : HostId) (c : Captured) (s : State) : ((proposeTarget h c s).1).resetLow = s.resetLow := by
  unfold proposeTarget
  (repeat' split) <;> simp

@[simp] theorem proposeTarget_pending (h : HostId) (c : Captured) (s : State) : ((proposeTarget h c s).1).pending = s.pending := by
  unfold proposeTarget
  (repeat' split) <;> simp

@[simp] theorem vote_ctm (h : HostId) (c : Captured) (s : State) : ((vote h c s).1).ctm = s.ctm := by
  unfold vote
  dsimp only
  (repeat' split) <;> simp

@[simp] theorem vote_resetLow (h : HostId) (c : Captured) (s : State) : ((vote h c s).1).resetLow = s.resetLow := by
  unfold vote
  dsimp only
  (repeat' split) <;> simp

@[simp] theorem vote_pending (h : HostId) (c : Captured) (s : State) : ((vote h c s).1).pending = s.pending := by
  unfold vote
  dsimp only
  (repeat' split) <;> simp

@[simp] theorem withdrawProposal_ctm (h : HostId) (c : Captured) (s : State) : ((withdrawProposal h c s).1).ctm = s.ctm := by
  unfold withdrawProposal
  (repeat' split) <;> simp

@[simp] theorem withdrawProposal_resetLow (h : HostId) (c : Captured) (s : State) : ((withdrawProposal h c s).1).resetLow = s.resetLow := by
  unfold withdrawProposal
  (repeat' split) <;> simp

@[simp] theorem withdrawProposal_pending (h : HostId) (c : Captured) (s : State) : ((withdrawProposal h c s).1).pending = s.pending := by
  unfold withdrawProposal
  (repeat' split) <;> simp

@[simp] theorem expireProposal_ctm (s : State) : (expireProposal s).ctm = s.ctm := by
  unfold expireProposal
  (repeat' split) <;> simp

@[simp] theorem expireProposal_resetLow (s : State) : (expireProposal s).resetLow = s.resetLow := by
  unfold expireProposal
  (repeat' split) <;> simp

@[simp] theorem expireProposal_pending (s : State) : (expireProposal s).pending = s.pending := by
  unfold expireProposal
  (repeat' split) <;> simp

@[simp] theorem takeMark_ctm (s : State) : (takeMark s).ctm = s.ctm := by
  unfold takeMark
  (repeat' split) <;> simp

@[simp] theorem takeMark_resetLow (s : State) : (takeMark s).resetLow = s.resetLow := by
  unfold takeMark
  (repeat' split) <;> simp

@[simp] theorem takeMark_pending (s : State) : (takeMark s).pending = s.pending := by
  unfold takeMark
  (repeat' split) <;> simp

@[simp] theorem msEnds_resetLow (s : State) : (msEnds s).resetLow = s.resetLow := by
  simp [msEnds]

@[simp] theorem msEnds_pending (s : State) : (msEnds s).pending = s.pending := by
  simp [msEnds]

@[simp] theorem markHanded_ctm (r : Proposal) (s : State) : (markHanded r s).ctm = s.ctm := by
  simp [markHanded]

@[simp] theorem markHanded_resetLow (r : Proposal) (s : State) : (markHanded r s).resetLow = s.resetLow := by
  simp [markHanded]

@[simp] theorem markHanded_pending (r : Proposal) (s : State) : (markHanded r s).pending = s.pending := by
  simp [markHanded]

@[simp] theorem handCycle_resetLow (s : State) : (handCycle s).resetLow = s.resetLow := by
  unfold handCycle
  (repeat' split) <;> simp

@[simp] theorem handCycle_pending (s : State) : (handCycle s).pending = s.pending := by
  unfold handCycle
  (repeat' split) <;> simp

@[simp] theorem handTarget_ctm (s : State) : (handTarget s).ctm = s.ctm := by
  unfold handTarget
  (repeat' split) <;> simp

@[simp] theorem handTarget_resetLow (s : State) : (handTarget s).resetLow = s.resetLow := by
  unfold handTarget
  (repeat' split) <;> simp

@[simp] theorem handTarget_pending (s : State) : (handTarget s).pending = s.pending := by
  unfold handTarget
  (repeat' split) <;> simp

@[simp] theorem takeApplied_ctm (s : State) : (takeApplied s).ctm = s.ctm := by
  unfold takeApplied
  (repeat' split) <;> simp

@[simp] theorem takeApplied_resetLow (s : State) : (takeApplied s).resetLow = s.resetLow := by
  unfold takeApplied
  (repeat' split) <;> simp

@[simp] theorem takeApplied_pending (s : State) : (takeApplied s).pending = s.pending := by
  unfold takeApplied
  (repeat' split) <;> simp

@[simp] theorem clearLimit_ctm (s : State) : (clearLimit s).ctm = s.ctm := by
  unfold clearLimit
  (repeat' split) <;> simp

@[simp] theorem clearLimit_resetLow (s : State) : (clearLimit s).resetLow = s.resetLow := by
  unfold clearLimit
  (repeat' split) <;> simp

@[simp] theorem clearLimit_pending (s : State) : (clearLimit s).pending = s.pending := by
  unfold clearLimit
  (repeat' split) <;> simp

@[simp] theorem queryProposal_ctm (h : HostId) (s : State) : ((queryProposal h s).1).ctm = s.ctm := by
  unfold queryProposal
  dsimp only
  (repeat' split) <;> simp

@[simp] theorem queryProposal_resetLow (h : HostId) (s : State) : ((queryProposal h s).1).resetLow = s.resetLow := by
  unfold queryProposal
  dsimp only
  (repeat' split) <;> simp

@[simp] theorem queryProposal_pending (h : HostId) (s : State) : ((queryProposal h s).1).pending = s.pending := by
  unfold queryProposal
  dsimp only
  (repeat' split) <;> simp

@[simp] theorem unitCommand_ctm (k : Cmd) (h : HostId) (c : Captured) (s : State) : ((unitCommand k h c s).1).ctm = s.ctm := by
  cases k <;> simp [unitCommand, atOnce]

@[simp] theorem unitCommand_resetLow (k : Cmd) (h : HostId) (c : Captured) (s : State) : ((unitCommand k h c s).1).resetLow = s.resetLow := by
  cases k <;> simp [unitCommand, atOnce]

@[simp] theorem unitCommand_pending (k : Cmd) (h : HostId) (c : Captured) (s : State) : ((unitCommand k h c s).1).pending = s.pending := by
  cases k <;> simp [unitCommand, atOnce]

@[simp] theorem deliver_ctm (p : HostId) (x : State × Option Reply) : (deliver p x).ctm = x.1.ctm := by
  unfold deliver
  split <;> simp

@[simp] theorem deliver_resetLow (p : HostId) (x : State × Option Reply) : (deliver p x).resetLow = x.1.resetLow := by
  unfold deliver
  split <;> simp

@[simp] theorem deliver_pending (p : HostId) (x : State × Option Reply) : (deliver p x).pending = x.1.pending := by
  unfold deliver
  split <;> simp

@[simp] theorem takeCommand_ctm (p : HostId) (k : Cmd) (s : State) : (takeCommand p k s).ctm = s.ctm := by
  simp [takeCommand]

@[simp] theorem takeCommand_resetLow (p : HostId) (k : Cmd) (s : State) : (takeCommand p k s).resetLow = s.resetLow := by
  simp [takeCommand]

@[simp] theorem takeCommand_pending (p : HostId) (k : Cmd) (s : State) : (takeCommand p k s).pending = s.pending := by
  simp [takeCommand]

@[simp] theorem hostCommand_ctm (p : HostId) (k : Cmd) (s : State) : (hostCommand p k s).ctm = s.ctm := by
  unfold hostCommand
  (repeat' split) <;> simp

@[simp] theorem hostCommand_resetLow (p : HostId) (k : Cmd) (s : State) : (hostCommand p k s).resetLow = s.resetLow := by
  unfold hostCommand
  (repeat' split) <;> simp

@[simp] theorem hostCommand_pending (p : HostId) (k : Cmd) (s : State) : (hostCommand p k s).pending = s.pending := by
  unfold hostCommand
  (repeat' split) <;> simp

@[simp] theorem commandWrite_ctm (p : HostId) (v : Word) (s : State) : (commandWrite p v s).ctm = s.ctm := by
  unfold commandWrite
  (repeat' split) <;> simp

@[simp] theorem commandWrite_resetLow (p : HostId) (v : Word) (s : State) : (commandWrite p v s).resetLow = s.resetLow := by
  unfold commandWrite
  (repeat' split) <;> simp

@[simp] theorem commandWrite_pending (p : HostId) (v : Word) (s : State) : (commandWrite p v s).pending = s.pending := by
  unfold commandWrite
  (repeat' split) <;> simp

@[simp] theorem portWrite_ctm (p : HostId) (f : Port → Port) (s : State) : (portWrite p f s).ctm = s.ctm := by
  unfold portWrite
  (repeat' split) <;> simp

@[simp] theorem portWrite_resetLow (p : HostId) (f : Port → Port) (s : State) : (portWrite p f s).resetLow = s.resetLow := by
  unfold portWrite
  (repeat' split) <;> simp

@[simp] theorem portWrite_pending (p : HostId) (f : Port → Port) (s : State) : (portWrite p f s).pending = s.pending := by
  unfold portWrite
  (repeat' split) <;> simp

@[simp] theorem writeMailbox_ctm (p : HostId) (j : Fin 256) (v : Word) (s : State) : (writeMailbox p j v s).ctm = s.ctm := by
  unfold writeMailbox
  (repeat' split) <;> simp

@[simp] theorem writeMailbox_resetLow (p : HostId) (j : Fin 256) (v : Word) (s : State) : (writeMailbox p j v s).resetLow = s.resetLow := by
  unfold writeMailbox
  (repeat' split) <;> simp

@[simp] theorem writeMailbox_pending (p : HostId) (j : Fin 256) (v : Word) (s : State) : (writeMailbox p j v s).pending = s.pending := by
  unfold writeMailbox
  (repeat' split) <;> simp

@[simp] theorem accessError_ctm (p : HostId) (s : State) : (accessError p s).ctm = s.ctm := by
  simp [accessError]

@[simp] theorem accessError_resetLow (p : HostId) (s : State) : (accessError p s).resetLow = s.resetLow := by
  simp [accessError]

@[simp] theorem accessError_pending (p : HostId) (s : State) : (accessError p s).pending = s.pending := by
  simp [accessError]

@[simp] theorem readThrough_ctm (p : HostId) (ap : Aperture) (w : Nat) (s : State) : (readThrough p ap w s).ctm = s.ctm := by
  unfold readThrough
  dsimp only
  (repeat' split) <;> simp

@[simp] theorem readThrough_resetLow (p : HostId) (ap : Aperture) (w : Nat) (s : State) : (readThrough p ap w s).resetLow = s.resetLow := by
  unfold readThrough
  dsimp only
  (repeat' split) <;> simp

@[simp] theorem readThrough_pending (p : HostId) (ap : Aperture) (w : Nat) (s : State) : (readThrough p ap w s).pending = s.pending := by
  unfold readThrough
  dsimp only
  (repeat' split) <;> simp

@[simp] theorem writeAperture_ctm (p : HostId) (ap : Aperture) (w : Nat) (v : Word) (s : State) : (writeAperture p ap w v s).ctm = s.ctm := by
  unfold writeAperture
  (repeat' split) <;> simp

@[simp] theorem writeAperture_resetLow (p : HostId) (ap : Aperture) (w : Nat) (v : Word) (s : State) : (writeAperture p ap w v s).resetLow = s.resetLow := by
  unfold writeAperture
  (repeat' split) <;> simp

@[simp] theorem writeAperture_pending (p : HostId) (ap : Aperture) (w : Nat) (v : Word) (s : State) : (writeAperture p ap w v s).pending = s.pending := by
  unfold writeAperture
  (repeat' split) <;> simp

@[simp] theorem pageWrite_ctm (p : HostId) (r : PageReg) (v : Word) (s : State) : (pageWrite p r v s).ctm = s.ctm := by
  unfold pageWrite
  (repeat' split) <;> simp

@[simp] theorem pageWrite_resetLow (p : HostId) (r : PageReg) (v : Word) (s : State) : (pageWrite p r v s).resetLow = s.resetLow := by
  unfold pageWrite
  (repeat' split) <;> simp

@[simp] theorem pageWrite_pending (p : HostId) (r : PageReg) (v : Word) (s : State) : (pageWrite p r v s).pending = s.pending := by
  unfold pageWrite
  (repeat' split) <;> simp

@[simp] theorem hostWrite_ctm (p : HostId) (a : BitVec 15) (v : Word) (s : State) : (hostWrite p a v s).ctm = s.ctm := by
  unfold hostWrite
  (repeat' split) <;> simp

@[simp] theorem hostWrite_resetLow (p : HostId) (a : BitVec 15) (v : Word) (s : State) : (hostWrite p a v s).resetLow = s.resetLow := by
  unfold hostWrite
  (repeat' split) <;> simp

@[simp] theorem hostWrite_pending (p : HostId) (a : BitVec 15) (v : Word) (s : State) : (hostWrite p a v s).pending = s.pending := by
  unfold hostWrite
  (repeat' split) <;> simp

@[simp] theorem clearMailbox_ctm (h : HostId) (s : State) : (clearMailbox h s).ctm = s.ctm := by
  simp [clearMailbox]

@[simp] theorem clearMailbox_resetLow (h : HostId) (s : State) : (clearMailbox h s).resetLow = s.resetLow := by
  simp [clearMailbox]

@[simp] theorem clearMailbox_pending (h : HostId) (s : State) : (clearMailbox h s).pending = s.pending := by
  simp [clearMailbox]

@[simp] theorem portReset_ctm (p : HostId) (s : State) : (portReset p s).ctm = s.ctm := by
  unfold portReset
  dsimp only
  (repeat' split) <;> simp

@[simp] theorem portReset_resetLow (p : HostId) (s : State) : (portReset p s).resetLow = s.resetLow := by
  unfold portReset
  dsimp only
  (repeat' split) <;> simp

@[simp] theorem portReset_pending (p : HostId) (s : State) : (portReset p s).pending = s.pending := by
  unfold portReset
  dsimp only
  (repeat' split) <;> simp

@[simp] theorem portResetEnd_ctm (p : HostId) (s : State) : (portResetEnd p s).ctm = s.ctm := by
  simp [portResetEnd]

@[simp] theorem portResetEnd_resetLow (p : HostId) (s : State) : (portResetEnd p s).resetLow = s.resetLow := by
  simp [portResetEnd]

@[simp] theorem portResetEnd_pending (p : HostId) (s : State) : (portResetEnd p s).pending = s.pending := by
  simp [portResetEnd]

@[simp] theorem settle_ctm (s : State) : (settle s).ctm = s.ctm := by
  simp [settle]

@[simp] theorem settle_resetLow (s : State) : (settle s).resetLow = s.resetLow := by
  simp [settle]

@[simp] theorem settle_pending (s : State) : (settle s).pending = s.pending := by
  simp [settle]

@[simp] theorem tick_resetLow (s : State) : (tick s).resetLow = s.resetLow := by
  simp [tick]

@[simp] theorem tick_pending (s : State) : (tick s).pending = s.pending := by
  simp [tick]

@[simp] theorem cycleEnds_resetLow (s : State) : (cycleEnds s).resetLow = s.resetLow := by
  simp [cycleEnds]

@[simp] theorem cycleEnds_pending (s : State) : (cycleEnds s).pending = s.pending := by
  simp [cycleEnds]

/-- A report of a departure taken by a unit whose reaction keeps a field keeps it. -/
theorem takeReport_ctm (h : HostId) (u : LeaveUnit) {f : State → State} (hf : ∀ s, (f s).ctm = s.ctm) (s : State) :
    (takeReport h u f s).ctm = s.ctm := by
  unfold takeReport
  split
  · rw [confirm_ctm, hf]
  · rfl

theorem takeReport_resetLow (h : HostId) (u : LeaveUnit) {f : State → State} (hf : ∀ s, (f s).resetLow = s.resetLow) (s : State) :
    (takeReport h u f s).resetLow = s.resetLow := by
  unfold takeReport
  split
  · rw [confirm_resetLow, hf]
  · rfl

theorem takeReport_pending (h : HostId) (u : LeaveUnit) {f : State → State} (hf : ∀ s, (f s).pending = s.pending) (s : State) :
    (takeReport h u f s).pending = s.pending := by
  unfold takeReport
  split
  · rw [confirm_pending, hf]
  · rfl

end Sys2Proof.Machine
end

