-- ==== Sys2Proof/Laws/HandOver.lean ====
section
/-!
SUPPORT. What a hand-over, its refusal, the start of cycle 0 and the end of a window leave (R39, R100, R111, R143).
-/
namespace Sys2Proof.Machine

/-! ## A choice undone (R143) -/

/-- A request handed over and taken back leaves OTA as it was. -/
theorem undoRequest_giveRequest {s : State} {h : HostId} {r : Request} {rest : List Request} (hq : s.queue h = r :: rest)
    (hr : s.ota.running = none) : undoRequest h r s.ota.pointer (giveRequest h r s) = s := by
  have e : ∀ l : List Request, put (put s.ota.queues h l) h (s.queue h) = s.ota.queues := fun l =>
    vector_ext fun j => by simp only [pick_put, State.queue]; split <;> simp_all
  have q : (giveRequest h r s).queue h = rest := by
    simp [giveRequest, State.queue, State.setQueue, State.setOta]; rw [← State.queue, hq]; rfl
  have key : undoRequest h r s.ota.pointer (giveRequest h r s) =
      { s with ota := { s.ota with queues := put (put s.ota.queues h (s.queue h).tail) h (r :: (giveRequest h r s).queue h)
                                   running := none, pointer := s.ota.pointer } } := rfl
  rw [key, q, ← hq, e, ← hr]

/-- A probe handed over and taken back leaves OTA as it was. -/
theorem undoProbe_giveProbe {s : State} {t : TargetId} {rest : List TargetId} (hq : s.ota.probes = t :: rest)
    (hp : s.ota.probing = none) : undoProbe t (giveProbe t s) = s := by
  have key : undoProbe t (giveProbe t s) =
      { s with ota := { s.ota with probes := t :: s.ota.probes.tail, probing := none } } := rfl
  rw [key, hq, ← hp, List.tail_cons, ← hq]

/-- Where no start is due a hand-over makes the engine OPEN and asks for the first access. -/
theorem handRequest_eq {s : State} (h : HostId) (r : Request) (hd : dueWindow s = none) :
    handRequest h r s = askAccess (requestAccess (r.run h) (giveRequest h r s)) (engineOpens (giveRequest h r s)) := by
  simp [handRequest, State.refusesHandOver, State.offered, hd]

theorem handProbe_eq {s : State} (t : TargetId) (hd : dueWindow s = none) :
    handProbe t s = askAccess (probeAccess t) (engineOpens (giveProbe t s)) := by
  simp [handProbe, State.refusesHandOver, State.offered, hd]

/-- Either the hand-over stands, or the engine has taken the announcement and OTA's choice is undone. -/
theorem handRequest_cases (h : HostId) (r : Request) (s : State) :
    handRequest h r s =
        askAccess (requestAccess (r.run h) (giveRequest h r s.offered)) (engineOpens (giveRequest h r s.offered)) ∨
      handRequest h r s = announceToIdle (undoRequest h r s.ota.pointer (giveRequest h r s.offered)) := by
  unfold handRequest
  split
  · exact .inr rfl
  · exact .inl rfl

/-! ## When a start is due (R39) -/

/-- No start is due while a reaction of WTU to a boundary is outstanding, nor while the timebase is not CYCLING. -/
theorem dueWindow_none {s : State} (h : s.wtu.boundaryDue = true ∨ s.cycling = false ∨ s.wtu.announceDue = false) :
    dueWindow s = none := by
  obtain h | h | h := h <;> simp [dueWindow, h]

/-- What a start that is due is. -/
theorem dueWindow_some {s : State} {w : Window} (h : dueWindow s = some w) :
    s.cycling = true ∧ s.wtu.announceDue = true ∧ s.wtu.boundaryDue = false ∧ w ∈ s.wtu.table ∧ w.cond = .active ∧
      w.selected s.ctm.cycle = true ∧ w.start = s.ctm.counter := by
  unfold dueWindow at h
  split at h
  · have hm := List.mem_of_find?_eq_some h
    have hp := List.find?_some h
    simp_all
  · cases h

/-- Where no start is due none is announced. -/
theorem announceStart_none {s : State} (h : dueWindow s = none) : announceStart s = s := by rw [announceStart, h]

/-- At counter 0 of cycle 0 no start is due where no ACTIVE window that starts there is selected. -/
theorem dueWindow_cycleZero {s : State} (hc : s.ctm.counter = 0) (hy : s.ctm.cycle = 0)
    (h : ∀ w ∈ s.wtu.table, w.start = 0 → w.cond = .active → 0 % w.divisor ≠ w.phase) : dueWindow s = none := by
  unfold dueWindow
  split
  · rw [List.find?_eq_none]
    intro w hw
    have := h w hw
    simp [Window.selected, hc, hy] at *
    tauto
  · rfl

/-! ## The start of cycle 0 (R5, R6, R39) -/

/-- The posting of SYNC_STATE changes the ports alone (R12). -/
theorem postSync_frame (y : SyncState) (s : State) : postSync y s = { s with ports := (postSync y s).ports } := by
  unfold postSync
  split
  · rfl
  · exact postAll_frame _ _

@[simp] theorem postSync_txe (y : SyncState) (s : State) : (postSync y s).txe = s.txe := by rw [postSync_frame]
@[simp] theorem postSync_ota (y : SyncState) (s : State) : (postSync y s).ota = s.ota := by rw [postSync_frame]
@[simp] theorem postSync_wtu (y : SyncState) (s : State) : (postSync y s).wtu = s.wtu := by rw [postSync_frame]

/-- A choice hands nothing over while the engine is not IDLE, and where nothing is queued. -/
theorem choice_eq_self {s : State} (h : s.txe.state ≠ .idle ∨ (s.ota.probes = [] ∧ ∀ h, s.queue h = [])) : choice s = s := by
  unfold choice
  split
  · obtain h | ⟨h1, h2⟩ := h
    · contradiction
    · simp [choiceLoop, decideChoice, h1, h2, hostOrder, chooseHost]
  · rfl

/-- Where OTA hands nothing over, the start of cycle 0 announces the start at counter 0 and no more. -/
theorem cycleZeroBegins_eq {s : State} (h : s.txe.state ≠ .idle ∨ (s.ota.probes = [] ∧ ∀ h, s.queue h = [])) :
    cycleZeroBegins s = announceStart s := by rw [cycleZeroBegins, choice_eq_self h]

/-! ## The spent mark (R111, part 4) -/

@[simp] theorem Txe.spend_ctx (t : Txe) (c : RunCopy) : (t.spend c).ctx = none := rfl
@[simp] theorem Txe.spend_spent (t : Txe) (c : RunCopy) : (t.spend c).spent = some ⟨c.endTime, c.crossed⟩ := rfl
@[simp] theorem Txe.spend_pendingStart (t : Txe) (c : RunCopy) : (t.spend c).pendingStart = t.pendingStart := rfl
@[simp] theorem Txe.spend_state (t : Txe) (c : RunCopy) : (t.spend c).state = t.state := rfl
@[simp] theorem Txe.cleared_pendingStart (t : Txe) : t.cleared.pendingStart = t.pendingStart := rfl
@[simp] theorem Txe.cleared_state (t : Txe) : t.cleared.state = .idle := rfl

end Sys2Proof.Machine
end

