-- ==== Sys2Proof/Laws/Memory.lean ====
section
/-!
SUPPORT. Every operation over buffer memory and the mailboxes keeps the canonical form of both, and the state right after reset
has it.
-/
namespace Sys2Proof.Machine

theorem State.reset_memoryOk : State.reset.memoryOk := ⟨by decide +kernel, by decide +kernel⟩

/-- The canonical form depends on buffer memory and the mailboxes alone. -/
theorem State.memoryOk_congr {s t : State} (hm : t.rgm.mem = s.rgm.mem) (ho : t.ota.mailboxes = s.ota.mailboxes)
    (h : s.memoryOk) : t.memoryOk := by
  unfold State.memoryOk at *
  rw [hm, ho]
  exact h

/-- Writing a word of a bank keeps the form. -/
theorem bankWrite_memoryOk (i : RegionId) (b w : Nat) (v : Word) {s : State} (h : s.memoryOk) :
    (bankWrite i b w v s).memoryOk := by
  unfold bankWrite
  split
  · split
    · exact ⟨WordMem.wf_write v s.rgm.mem ‹_› h.1, h.2⟩
    · exact h
  · exact h

/-- A mailbox replaced by one in canonical form. -/
theorem mailbox_memoryOk {s : State} (p : HostId) {m : WordMem} (hm : WordMem.wf mailboxWords m = true) (h : s.memoryOk) :
    (s.setOta { s.ota with mailboxes := put s.ota.mailboxes p m }).memoryOk := by
  refine ⟨h.1, fun q => ?_⟩
  show WordMem.wf mailboxWords (pick (put s.ota.mailboxes p m) q) = true
  rw [pick_put]
  split
  · exact hm
  · exact h.2 q

/-- A host's write to its mailbox keeps the form. -/
theorem writeMailbox_memoryOk (p : HostId) (j : Fin 256) (v : Word) {s : State} (h : s.memoryOk) :
    (writeMailbox p j v s).memoryOk := by
  unfold writeMailbox
  split
  · exact mailbox_memoryOk p (WordMem.wf_write v _ j.isLt (h.2 p)) h
  · exact h

/-- The word a request's READ brings into the mailbox keeps the form. -/
theorem storeRequestWord_memoryOk (r : RunningReq) (w : Word) {s : State} (h : s.memoryOk) :
    (storeRequestWord r w s).memoryOk := by
  unfold storeRequestWord
  split
  · exact mailbox_memoryOk r.owner (WordMem.wf_write w _ (‹_ ∧ _›).2 (h.2 r.owner)) h
  · exact h

/-- The word an IN window's READ brings into its bank keeps the form. -/
theorem storeWord_memoryOk (c : RunCopy) (w : Word) {s : State} (h : s.memoryOk) : (storeWord c w s).memoryOk := by
  unfold storeWord
  split
  · exact bankWrite_memoryOk _ _ _ _ h
  · exact h

/-- Clearing a mailbox keeps the form. -/
theorem clearMailbox_memoryOk (p : HostId) {s : State} (h : s.memoryOk) : (clearMailbox p s).memoryOk :=
  mailbox_memoryOk p rfl h

/-- Device reset leaves the form, from any state. -/
theorem deviceReset_memoryOk (s : State) : (deviceReset s).memoryOk :=
  State.memoryOk_congr (s := State.reset) rfl rfl State.reset_memoryOk

end Sys2Proof.Machine
end

