-- ==== Sys2Proof/Laws/Spoken.lean ====
section
/-!
SUPPORT. What the words of Safety.lean mean in terms of the operations: events told, open time and the choice (R140, R142), a
region tested and a bank published (R74, R92).
-/
namespace Sys2Proof.Machine

/-! ## Events told -/

@[simp] theorem toldAll_nil (s : State) (q : HostId) : toldAll s [] q = s.port q := by simp [toldAll]

theorem toldAll_single (s : State) (e : Event) (q : HostId) : toldAll s [e] q = s.told e q := rfl

/-! ## Open time and the choice (R140, R142) -/

/-- An estimate fits the remaining open time. -/
theorem fits_iff (s : State) (n : Nat) : s.fits n = true ↔ fitsOpen s n := by
  unfold State.fits State.openTime fitsOpen
  by_cases h : s.ctm.timebase = .cycling
  · simp [State.cycling, h]; omega
  · simp [State.cycling, h]

theorem probeEstimate_eq (s : State) (x : TargetId) : s.probeEstimate x = probeTicks s x := rfl

theorem estimate_eq (s : State) (r : Request) :
    s.estimate r = (unitsOf r (s.profile r.target) + s.ctm.params.prescale - 1) / s.ctm.params.prescale := by
  unfold State.estimate ticksOf requestUnits unitsOf
  cases hk : r.kind <;> cases hm : r.mode <;> cases hb : (s.profile r.target).burst <;>
    simp [ReqKind.block, Profile.fullUnits]

/-- A host that is passed over leaves the choice to the hosts after it. -/
theorem chooseHost_passedOver {s : State} {h : HostId} (l : List HostId) (hp : passedOver s h) :
    chooseHost s (h :: l) = chooseHost s l := by
  unfold passedOver at hp
  cases hq : s.queue h with
  | nil => simp [chooseHost, hq]
  | cons r rest =>
    obtain ⟨ht, hf⟩ := hp r (by simp [hq])
    rw [← fits_iff] at hf
    simp [chooseHost, hq, ht, hf]

/-- Where no probe fits, the choice is among the hosts. -/
theorem decideChoice_probeWaits {s : State} (hp : probeWaits s) : decideChoice s = chooseHost s (hostOrder s.ota.pointer) := by
  unfold probeWaits at hp
  unfold decideChoice
  split
  · next x xs hx =>
    have hf := hp x (by simp [hx])
    rw [← probeEstimate_eq, ← fits_iff] at hf
    simp [hf]
  · rfl

/-- Where no start is due none is found. -/
theorem dueWindow_noStartDue {s : State} (h : noStartDue s) : dueWindow s = none := by
  unfold dueWindow
  split
  · next hc =>
    simp only [Bool.and_eq_true, State.cycling, beq_iff_eq, Bool.not_eq_true'] at hc
    rw [List.find?_eq_none]
    intro w hw
    have := h hc.1.1 hc.1.2 hc.2 w hw
    simp [Window.selected]
    tauto
  · rfl

/-! ## A region tested, a bank published (R74, R92) -/

theorem bankHolds_eq (k : Bank) : bankHolds k = k.holds := rfl

/-- The test of R74. -/
theorem testFree_eq {s : State} {i : RegionId} {r : Region} (h : s.region i = some r) :
    testFree i s = if freeable s i r then freeRegion i r (r.retire.getD .deleted) s else s := by
  have e : r.banks.any bankHolds = r.banks.any Bank.holds := rfl
  unfold testFree freeable
  rw [h, e]
  cases hr : r.retire <;> cases hb : r.banks.any Bank.holds <;> cases hn : s.wtu.names i <;> simp [hr, hb]

theorem generationAfter_eq (g : BitVec 32) : generationAfter g = nextGeneration g := rfl

@[simp] theorem length_updAt {α : Type} (l : List α) (i : Nat) (f : α → α) : (updAt l i f).length = l.length := by
  induction l generalizing i with
  | nil => rfl
  | cons x l ih => cases i <;> simp [updAt, ih]

theorem getElem?_updAt {α : Type} (l : List α) (i j : Nat) (f : α → α) :
    (updAt l i f)[j]? = if j = i then l[j]?.map f else l[j]? := by
  induction l generalizing i j with
  | nil => simp [updAt]
  | cons x l ih => cases i <;> cases j <;> simp [updAt, ih]

/-- A change of one entry that exists. -/
theorem updAt_eq_set {α : Type} {l : List α} {i : Nat} {x : α} (f : α → α) (h : l[i]? = some x) :
    updAt l i f = l.set i (f x) := by
  apply List.ext_getElem?
  intro j
  rw [getElem?_updAt, List.getElem?_set]
  by_cases hj : j = i
  · subst hj
    obtain ⟨hl, hx⟩ := List.getElem?_eq_some_iff.mp h
    simp [hl, hx]
  · simp [hj, Ne.symm hj]

/-- What a publication leaves in the banks. -/
theorem publish_publishedAt (r : Region) (b : Nat) :
    publishedAt r.banks (r.publish b).banks b (generationAfter r.generation) := by
  refine ⟨by simp [Region.publish], fun j y hy => ?_⟩
  simp only [Region.publish, getElem?_updAt, List.getElem?_map, hy, Option.map_some]
  by_cases hj : j = b <;> by_cases hp : y.role = .published <;>
    by_cases hq : y.pins = 0 <;> cases he : y.enginePin <;>
      simp [hj, hp, hq, he, Bank.settle, Bank.pinned, generationAfter, nextGeneration]

end Sys2Proof.Machine
end

