-- ==== Sys2Proof/WellFormed.lean ====
section
/-!
DEFINITION. When an operand of a command is one its row admits. Operand types already bound ports, apertures and
word numbers; two rows say more: BAD_COMMAND is a write naming no command (R153), and REGISTER_WRITE is a write
to an address with no row of its own.
-/
namespace Sys2Proof

/-- The address has no row of its own in the opcode table: it is not COMMAND, EVENT_POP, PORT_CONTROL or
PORT_FLAGS, and lies in no aperture and not in the mailbox. -/
def hasNoRow (addr : BitVec 15) : Bool :=
  match Machine.addrClass addr with
  | .page .command | .page .eventPop | .page .portControl | .page .portFlags => false
  | .page _ | .unnamedOffset | .outside => true
  | .mailbox _ | .aperture _ _ => false

/-- The operands are ones the command's row admits. (DESIGN CHOICE, log entry 28) -/
def Instr.wellFormed : Instr → Bool
  | .badCommand _ v => (Machine.Cmd.ofCode (Machine.commandCode v)).isNone
  | .registerWrite _ a _ => hasNoRow a
  | _ => true

end Sys2Proof
end

