-- ==== Sys2Proof/Tests/Slice0.lean ====
section
/-!
SUPPORT. Tests: well-formedness, examples worked in the manual, and, for every statement with hypotheses, a state and
operands that meet them.
-/
namespace Sys2Proof.Tests
open Sys2Proof Sys2Proof.Machine

-- Every test asks the kernel; one after the other, for asked together they take a thread each.
set_option Elab.async false

/-! ## Small states -/

/-- Hosts 0 and 1 are members and the reset hold is over. -/
def base : State := { State.reset with agu := { resetAgu with members := 3 }, tbi := { resetTbi with hold := false } }

/-- RST_N is low. -/
def resetState : State := { base with resetLow := true }

/-- Parameter words of a port, from P0 onward. -/
def withParamsAt (p : HostId) (ws : List Word) (s : State) : State := s.modPort p fun q => { q with params := resultWords ws }

def withParams (ws : List Word) (s : State) : State := withParamsAt 0 ws s

def freeParams : CycleParams := { resetParams with run := .run }

/-- CYCLING with L 1000, W 16 and a counter value. -/
def at_ (n : Nat) (m : SyncMode) : State :=
  { base with ctm := { resetCtm with timebase := .cycling, params := { freeParams with mode := m }, counter := n } }

def settings (enable : Bool) : TargetSettings := ⟨7, enable, resetProfile⟩

/-- A TARGET proposal of host 0 on which host 1 has yet to vote. -/
def ballot (st : ProposalState) : Proposal := ⟨7, .target (settings true), 0, 2, 0, 5, st, false⟩

def vote (st : ProposalState) (timer : Nat) : State :=
  { base with agu := { base.agu with proposal := some (ballot st), voteTimer := timer } }

def settled (c : Contents) : Proposal := ⟨7, c, 0, 2, 2, 5, .agreed, false⟩

/-- Agreed contents on their way. -/
def handed (s : State) (c : Contents) : State :=
  { s with agu := { s.agu with proposal := some (settled c), handoverDue := true } }

def seg : Segment := ⟨3, 2, 0, .fixed⟩

def win (d : Direction) : Window := ⟨5, 0, 500, 400, 7, d, 2, 1, 0, true, [seg], .active, .never, 0⟩

def copy (d : Direction) : RunCopy := ⟨5, 0, d == .dirIn, 7, d, 2, [seg], 500, 900, 0, false⟩

def bank (r : Role) : Bank := ⟨r, 0, false, 5⟩

def filling : Bank := bank (.filling .engine)

def written : Bank := bank (.filling .writeHandle)

def drained : Bank := { bank .published with enginePin := true }

def region (k : RegionKind) (bs : List Bank) : Region := ⟨k, 0, 1, 0, 1, 4, none, bs⟩

/-- Region 2 exists. -/
def held (k : RegionKind) (bs : List Bank) : State :=
  { base with rgm := { resetRgm with regions := put resetRgm.regions 2 (some (region k bs)) } }

/-- One window, 500 to 900, into region 2 of one block. -/
def tabled : State :=
  { held .input [bank .free, bank .published] with wtu := { resetWtu with table := [win .dirIn] } }

def target (st : TargetState) (s : State) : State := { s with tbi := { s.tbi with states := put s.tbi.states 7 st } }

def online : State := target .online base

def faulted : State := target .faulted base

/-- CTM's slot is FULL. -/
def slotted (n : CycleParams) (s : State) : State := { s with ctm := { s.ctm with slot := some n } }

/-- The counter has reached the window's start. -/
def due (d : Direction) (k : RegionKind) (r : Role) : State :=
  { target .online (held k [bank r, bank .held]) with
    ctm := (at_ 500 .free).ctm, wtu := { resetWtu with table := [win d], announceDue := true } }

def access (k : AccessKind) : Access := ⟨7, 0, false, k, 0, resetProfile, false, .strobe, 0, false⟩

/-- The window runs, its first word's access in the strobe. -/
def runningAt (n : Nat) (d : Direction) : State :=
  let s := target .online (held .input [filling])
  { s with
    ctm := (at_ n .free).ctm, wtu := { resetWtu with table := [win d], runs := [⟨5, 0, false⟩] }
    rgm := { s.rgm with claim := some ⟨.fill, 2, 0⟩ }
    txe := { resetTxe with state := .window, ctx := some (copy d), claim := some ⟨0, 0⟩ }
    tbi := { s.tbi with access := some (access .window) } }

/-- A second window, 100 to 500. -/
def earlyWin : Window := { win .dirIn with id := 6, start := 100, dur := 400 }

/-- The counter has reached the window's start, and the engine is at work. -/
def dueBusy (st : EngineState) (a : Option Access) : State :=
  let s := due .dirIn .input .free
  { s with txe := { resetTxe with state := st }, tbi := { s.tbi with access := a } }

/-- No WINDOW_DONE for the window that is due. -/
def quietly (s : State) : State :=
  { s with wtu := { s.wtu with table := s.wtu.table.map fun w => { w with notify := false } } }

/-- The engine holds the start of the second window as the pending start. -/
def dueTwice : State :=
  let s := dueBusy .window (some (access .window))
  { s with
    txe := { s.txe with pendingStart := some (earlyWin.copy 0) }
    wtu := { s.wtu with table := [earlyWin, win .dirIn], runs := [⟨6, 0, false⟩] } }

/-- A state under every law, in which much is going on. -/
def lawful : State :=
  let s := runningAt 984 .dirIn
  let r := region .input [filling, { bank .published with pins := 1 }]
  { s.modPort 0 fun q => { q with readBind := put q.readBind 3 (some ⟨2, 1, 32⟩) } with
    pending := [.syncInPulse]
    ctm := { (at_ 984 .follow).ctm with sync := .holdover, missed := 3 }
    agu := { base.agu with proposal := some (ballot .waiting), voteTimer := 255 }
    wtu := { s.wtu with edits := [⟨5, 0, .remove⟩] }
    rgm := { s.rgm with
      regions := put s.rgm.regions 2 (some r)
      readHandles := put s.rgm.readHandles 0 (put (.replicate 4 none) 3 (some ⟨2, 1, 5⟩)) } }

/-- An OUT window's access has ended by ready timeout. -/
def timedOut : State :=
  let s := target .online (held .output [drained])
  { s with
    ctm := (at_ 800 .free).ctm, wtu := { resetWtu with table := [win .dirOut], runs := [⟨5, 0, false⟩] }
    rgm := { s.rgm with claim := some ⟨.drain, 2, 0⟩ }
    txe := { resetTxe with state := .window, ctx := some (copy .dirOut), claim := some ⟨0, 5⟩ }
    tbi := { s.tbi with access := some { access .window with timedOut := true } } }

def retired (r : Region) : Region := { r with retire := some .deleted }

/-- Region 2 is RETIRING. -/
def retiring (s : State) : State :=
  { s with rgm := { s.rgm with regions := put s.rgm.regions 2 ((s.region 2).map retired) } }

/-- An OUT window's last access but one is in progress. -/
def draining : State := { timedOut with tbi := { timedOut.tbi with access := some (access .window) } }

/-- At the last word of the window, on region `r`. -/
def atLastWord (r : Region) (s : State) : State :=
  { s with rgm := { s.rgm with regions := put s.rgm.regions 2 (some r) }, txe := { s.txe with word := 1 } }

/-- A window of two segments. -/
def twoSegs : RunCopy := { copy .dirIn with segs := [seg, ⟨5, 1, 2, .step⟩] }

/-- It runs, the last word of its first segment in the strobe. -/
def atSegmentEnd : State :=
  let s := runningAt 800 .dirIn
  { s with txe := { s.txe with word := 1, ctx := some twoSegs } }

/-- The window that runs has been changed to name region 3, and region 2, whose bank it drains, is RETIRING. -/
def lastHold : Bank := { drained with role := .held }

def moved : Window := { win .dirOut with region := 3 }

def freeingDrain : State :=
  let s := atLastWord (retired (region .output [lastHold])) draining
  { s with wtu := { s.wtu with table := [moved] } }

/-- A bank that was published before and that host 0 reads. -/
def readBank : Bank := { bank .published with pins := 1 }

/-- The window's end time was taken while an access is in progress. -/
def overrunning : State :=
  let s := runningAt 900 .dirIn
  { s with txe := { s.txe with ctx := some { copy .dirIn with notify := false }, endTaken := true } }

/-- The window has ended and its span is spent. -/
def spentAt (n : Nat) : State :=
  { base with ctm := (at_ n .free).ctm, txe := { resetTxe with state := .window, spent := some ⟨900, false⟩ } }

def probeRuns : State :=
  let s := target .probing base
  { s with
    txe := { resetTxe with state := .openRun }, ota := { resetOta with probing := some 7 }
    tbi := { s.tbi with access := some (access .probe) } }

/-- REG_READ of register 3 of target 7: 36 units, one tick at P 64. -/
def ask : Request := ⟨9, .regRead, 7, 3, 1, 0, .fixed, 0, 2, 1⟩

/-- BLOCK_READ of 256 words of register 15: 9216 units, 144 ticks. -/
def blockAsk : Request := ⟨255, .blockRead, 7, 15, 256, 0, .fixed, 0, 255, 144⟩

def queuedAs (r : Request) : State :=
  { base with txe := { resetTxe with state := .window }, ota := { resetOta with queues := put resetOta.queues 0 [r] } }

def queued : State := queuedAs ask

def expiringQueue : State := queuedAs { ask with deadline := 1 }

/-- A request is between accesses, and the counter is at E, 984 of 1000 in FOLLOW mode with W 16. -/
def betweenAccesses : State :=
  { base with
    ctm := (at_ 984 .follow).ctm, txe := { resetTxe with state := .openRun }
    ota := { resetOta with running := some ⟨0, ask, false, 0, 0⟩ } }

/-- A boundary was made while the engine is in OPEN. -/
def afterBoundary (s : State) : State := { s with ctm := (at_ 0 .free).ctm, txe := { s.txe with stopDue := true } }

/-- A probe of target 7 is between accesses at E. -/
def probeBetween (st : TargetState) : State :=
  { target st betweenAccesses with ota := { resetOta with probing := some 7 } }

/-- Hosts 0 and 1 have queued requests, the host served last is `last`, 990 of 1000 ticks have passed, the engine is IDLE. -/
def contended (last : HostId) (zero one : List Request) : State :=
  let s := withParamsAt 1 [9, 0x700, 3, 1, 0, 0, 2] online
  { s with
    ctm := (at_ 990 .free).ctm
    ota := { resetOta with queues := put (put resetOta.queues 0 zero) 1 one, pointer := last } }

/-- The same with a probe of target 7 queued. -/
def probed : State :=
  let s := target .probing (contended 3 [blockAsk] [])
  { s with ota := { s.ota with probes := [7] } }

/-- A request of 11 ticks, which does not fit after 990 of 1000. -/
def longAsk : Request := { ask with tag := 4, estimate := 11 }

/-- A request to a DISABLED target. -/
def lostAsk : Request := { ask with tag := 4, target := 3 }

/-- A request's access is in its strobe. -/
def requesting (r : Request) (done : Nat) : State :=
  { online with
    txe := { resetTxe with state := .openRun }, ota := { resetOta with running := some ⟨0, r, false, done, 0⟩ }
    tbi := { online.tbi with access := some (access .request) } }

/-- The same with a pending start, whose end time is 900, at a counter value. -/
def requestAhead (n : Nat) : State :=
  let s := requesting blockAsk 0
  { s with
    ctm := (at_ n .free).ctm, rgm := (held .input [bank .free]).rgm
    wtu := { resetWtu with table := [win .dirIn], runs := [⟨5, 0, false⟩] }
    txe := { s.txe with pendingStart := some { copy .dirIn with notify := false } } }

def leavingFrom (d : Departure) (s : State) : State :=
  { s with agu := { s.agu with departing := put s.agu.departing 2 (some d) } }

def leavingBy (d : Departure) : State := leavingFrom d base

/-- Host 2 departs and no unit has taken the report. -/
def departs (s : State) : State := leavingFrom ⟨.leave, departureUnits⟩ s

def leaving : State := departs base

/-- Only the port has not confirmed; the port is BUSY with a command. -/
def lastUnit (c : LeaveCause) (code : BitVec 8) : State :=
  (leavingBy ⟨c, [.port]⟩).modPort 2 fun q =>
    { q with state := .busy, captured := some ⟨code, .replicate 8 0, .replicate 24 0⟩ }

def busyPort : State := base.modPort 0 fun q => { q with state := .busy }

def eventful : State := base.modPort 0 fun q => { q with events := [.syncEarly 1 2] }

/-- The window that the parameters below ask for: 100 to 104 into region 2. -/
def fresh : Window := ⟨0, 0, 100, 4, 7, .dirIn, 2, 16, 15, false, [⟨0, 16, 16, .step⟩], .active, .never, 0⟩

/-- The parameters and segment words of STAGE_ADD, and the id of STAGE_CHANGE. -/
def asking (id : Word) (s : State) : State :=
  (withParams [100, 4, 0x107, 2, 16, 15, id] s).modPort 0 fun q =>
    { q with segArea := put (put (put q.segArea 0 0x100) 1 16) 2 16 }

def staging (s : State) : State := asking 0 s

def changing (s : State) : State := asking 5 s

def changed : Window := { fresh with id := 5 }

/-- A window that begins in the span of the window 5. -/
def inside : Window := { fresh with start := 896 }

/-- Window 5 has a staged edit, while CYCLING. -/
def edited (edits : List Edit) (limit : Option Nat) : State :=
  withParams [5] { tabled with ctm := (at_ 5 .free).ctm, wtu := { tabled.wtu with edits, limit } }

/-- Four regions of 192 blocks fill the pool. -/
def fullPool : State :=
  let r (b : Nat) : Option Region := some ⟨.input, 0, 64, b, 1, 0, none, List.replicate 3 freshBank⟩
  { base with
    rgm := { resetRgm with
      regions := put (put (put (put resetRgm.regions 0 (r 0)) 1 (r 192)) 2 (r 384)) 3 (r 576) } }

/-- Host 0 reads region 2 through A3. -/
def reading : State :=
  let s := held .input [{ bank .held with pins := 1 }]
  { s with rgm := { s.rgm with readHandles := put s.rgm.readHandles 0 (put (.replicate 4 none) 3 (some ⟨2, 0, 5⟩)) } }

/-- Host 0 writes region 2. -/
def writing : State :=
  let s := held .output [written]
  { s with rgm := { s.rgm with writeHandles := put s.rgm.writeHandles 0 (some ⟨2, 0, 5⟩) } }

/-- Host 2 owns the region. -/
def owned (r : Region) : Region := { r with owner := 2 }

def ownedBy2 (s : State) : State :=
  { s with rgm := { s.rgm with regions := put s.rgm.regions 2 ((s.region 2).map owned) } }

/-- Host 2 reads region 2 through A3. -/
def reading2 : State :=
  let s := held .input [{ bank .held with pins := 4 }]
  { s with rgm := { s.rgm with readHandles := put s.rgm.readHandles 2 (put (.replicate 4 none) 3 (some ⟨2, 0, 5⟩)) } }

/-- Host 2 writes its region 2. -/
def writing2 : State :=
  let s := ownedBy2 (held .output [written])
  { s with rgm := { s.rgm with writeHandles := put s.rgm.writeHandles 2 (some ⟨2, 0, 5⟩) } }

/-- W of port 0 shows bank 0 of region 2. -/
def bound : State := (held .output [written]).modPort 0 fun q => { q with writeBind := some ⟨2, 0, 32⟩ }

/-! ## Well-formedness, decoding and the address map -/

/-- 0x01 names JOIN (section 9.3), so the row BAD_COMMAND does not take it. -/
theorem test_badCommand_of_a_named_code_is_refused : (Instr.badCommand 0 0x0001).wellFormed = false := by decide

/-- 0x09 names no command. -/
theorem test_badCommand_of_an_unnamed_code : (Instr.badCommand 0 0x0009).wellFormed = true := by decide

/-- COMMAND, EVENT_POP, PORT_CONTROL, PORT_FLAGS, a mailbox word and an aperture word have rows of their own. -/
theorem test_registerWrite_to_an_address_with_a_row_is_refused :
    (([0x03, 0x14, 0x1C, 0x1D, 0x100, 0x1FF, 0x800, 0x2FFF] : List (BitVec 15)).all fun a =>
      !(Instr.registerWrite 0 a 0).wellFormed) = true := by decide +kernel

theorem test_no_word_spells_a_command : decodeTableWord 16 1 = none := rfl

/-- Section 9.1: the last word of each range. -/
theorem test_address_map :
    addrClass 0x37 = .page (.segment 23) ∧ addrClass 0x38 = .unnamedOffset ∧ addrClass 0x40 = .outside ∧
      addrClass 0x1FF = .mailbox 255 ∧ addrClass 0x200 = .outside ∧ addrClass 0xFFF = .aperture .w 2047 ∧
      addrClass 0x17FF = .aperture .a0 2047 ∧ addrClass 0x2FFF = .aperture .a3 2047 ∧ addrClass 0x3000 = .outside := by
  decide +kernel

/-! ## Examples worked in the manual -/

/-- Section 4.3, first-fit and fragmentation, before the second region 0. -/
def fragmented : Rgm :=
  let r (b size banks : Nat) : Option Region := some ⟨.input, 0, size, b, 1, 0, none, List.replicate banks freshBank⟩
  { resetRgm with
    regions := put (put (put (put resetRgm.regions 1 (r 48 8 2)) 2 (r 64 64 3)) 3 (r 256 64 3)) 4 (r 448 64 3) }

/-- 64 blocks go to 640; with them gone 72 blocks find no run, and 40 blocks go to 0. -/
theorem test_first_fit_example :
    fragmented.firstFit 64 = some 640 ∧ fragmented.emptySlot = some 0 ∧
      (let g := { fragmented with
         regions := put fragmented.regions 0 (some ⟨.input, 2, 32, 640, 4, 0, none, List.replicate 2 freshBank⟩) }
       g.firstFit 72 = none ∧ g.firstFit 40 = some 0) := by decide +kernel

/-- Section 2.7, which windows run: L 1000, windows 4, 7, 9 and the ORPHANED 11. -/
def fourWindows (cycle : BitVec 32) (n : Nat) : State :=
  let w (id start dur k p : Nat) : Window := { win .dirIn with id, start, dur, divisor := k, phase := p }
  { base with
    ctm := { (at_ n .free).ctm with cycle }
    wtu := { resetWtu with
      table := [w 4 50 100 1 0, w 7 200 100 2 1, w 9 500 50 4 2, { w 11 700 100 1 0 with cond := .orphaned }]
      announceDue := true } }

/-- Window 7 is announced in cycle 9 and not in cycle 10; window 9 in cycle 10 and not in cycle 9. -/
theorem test_which_windows_run :
    ((dueWindow (fourWindows 9 200)).map Window.id = some 7) ∧ dueWindow (fourWindows 10 200) = none ∧
      ((dueWindow (fourWindows 10 500)).map Window.id = some 9) ∧ dueWindow (fourWindows 9 500) = none ∧
      dueWindow (fourWindows 9 700) = none := by decide +kernel

/-- Section 1.4, holdover and loss: the tick that ends at counter 999 of cycle 45 under FOLLOW. -/
theorem test_fourth_miss_is_lost :
    let s := { at_ 999 .follow with ctm := { (at_ 999 .follow).ctm with cycle := 45, sync := .holdover, missed := 3 } }
    (cycleEnds s).ctm.sync = .lost ∧ (cycleEnds s).ctm.cycle = 46 ∧
      ((cycleEnds s).port 0).events = [.syncState .lost .holdover 4 46] := by decide +kernel

/-- The access after `n` reference periods, READY seen from period `r` on. -/
def periods (r : Nat) : Nat → Access → Option Access
  | 0, a => some a
  | n + 1, a => (periods r n a).bind fun b => b.period (decide (r ≤ n + 1)) 0

/-- Section 7.2, setup 2, strobe 3, recovery 5: READY 150 ns after the strobe began at unit 2 is seen at unit 10, and the access
lasts 15 units; with READY at once it lasts 10. -/
theorem test_handshake_access_lengths :
    let a := { access .request with phase := .setup, profile := ⟨2, 3, 5, true, 255, false⟩ }
    (periods 10 14 a).isSome = true ∧ periods 10 15 a = none ∧ (periods 0 9 a).isSome = true ∧ periods 0 10 a = none := by
  decide +kernel

/-- R134: 256 words of 36 units at P 1 are 9216 ticks. -/
theorem test_longest_estimate :
    ({ base with ctm := { resetCtm with params := { resetParams with prescale := 1 } } } : State).estimate blockAsk = 9216 := by
  decide +kernel

/-- Section 9.4: E0 of a popped SYNC_EARLY, kind 10, after a loss. -/
theorem test_popped_overflow_flag : pick (Event.words true (.syncEarly 300 43)) 0 = 0x800A := by decide +kernel

/-- R152: PORT_STATUS after JOIN by host 3: DONE in bits 0 and 1, status OK, code 0x01 in bits 8 to 15. -/
theorem test_port_status_after_join : hostRead 3 0x02 (hostCommand 3 .join base) = 0x0102 := by decide +kernel

/-- R34, R35, R39: the boundary at which FREE becomes FOLLOW begins cycle 1; a pulse then starts cycle 0 before WTU has reacted.
No start comes from the unedited table, and EDITS_APPLIED names cycle 1. -/
theorem test_a_late_reaction_keeps_its_boundary :
    let w : Window := { win .dirIn with start := 0 }
    let s := slotted { freeParams with mode := .follow } (at_ 999 .free)
    let t := syncPulse (cycleEnds { s with wtu := { resetWtu with table := [w], edits := [⟨5, 0, .remove⟩] } })
    t.ctm.cycle = 0 ∧ t.ctm.counter = 0 ∧ dueWindow t = none ∧ (wtuBoundary t).txe.state = .idle ∧
      ((wtuBoundary t).port 0).events.getLast? = some (.editsApplied 1 1) := by decide +kernel


/-- R5, R39: a pulse in ACQUIRING starts cycle 0, and the window that starts at 0 is announced in the same step. -/
theorem test_cycle_zero_announces_its_start :
    let w : Window := { win .dirIn with start := 0 }
    let s : State := { tabled with ctm := { resetCtm with timebase := .acquiring }, wtu := { resetWtu with table := [w] } }
    (syncPulse s).txe.state = .window ∧ (syncPulse s).wtu.announceDue = false := by decide +kernel

/-- R39, R47: the same through agreed contents; a departure that WTU takes next orphans the window after its announcement. -/
theorem test_cycle_zero_start_precedes_a_departure :
    let w : Window := { win .dirIn with start := 0 }
    let t := wtuLeave 0 (cycleContents freeParams { tabled with wtu := { resetWtu with table := [w] } })
    t.txe.state = .window ∧ t.wtu.table.map (·.cond) = [.orphaned] := by decide +kernel
/-! ## Every statement with hypotheses has a case -/

theorem witness_StepRunsTheFrontCommand :
    ∃ (c : Instr) (rest : List Instr) (s : State), s.pending = c :: rest :=
  ⟨.tick, [.msMark], { base with pending := [.tick, .msMark] }, by decide +kernel⟩

theorem witness_IdleStepIsOnePeriod :
    (∃ (s : State), s.pending = [] ∧ s.resetLow = true) ∧
    (∃ (s : State), s.pending = [] ∧ s.resetLow = false ∧ s.ctm.timebase ≠ .cycling ∧ s.txe.state = .idle ∧
      s.tbi.access = none ∧ s.tbi.hold = false ∧ s.wtu.boundaryDue = false ∧ s.tbi.boundaryDue = false ∧
      s.ota.boundaryDue = false ∧ s.agu.handoverDue = false ∧ s.agu.appliedDue = false ∧ s.wtu.limitClearDue = false ∧
      (∀ h, s.departure h = none) ∧ s.ctm.tickPos + 1 < s.ctm.params.prescale ∧ s.ctm.msPos + 1 < 50000) :=
  ⟨⟨(resetState), by decide +kernel⟩,
   ⟨{ base with ctm := { resetCtm with tickPos := 62, msPos := 49998 } }, by decide +kernel⟩⟩

theorem witness_DeviceResetAndItsHoldEnd :
    (∃ (s : State), s.resetLow = true) ∧
    (∃ (s : State), (∀ p, (s.port p).resetLow = false)) ∧
    (∃ (s : State), s.resetLow = false ∧ s.tbi.hold = true ∧ s.txe.waiting = false) ∧
    (∃ (s : State) (x : TargetId), s.resetLow = false ∧ s.tbi.hold = true ∧ s.txe.waiting = true ∧ s.txe.state =
      .openRun ∧ s.ota.running = none ∧ s.ota.probing = some x ∧ s.target x = .probing) :=
  ⟨⟨resetState, by decide +kernel⟩,
   ⟨base, by decide +kernel⟩,
   ⟨State.reset, by decide +kernel⟩,
   ⟨{ probeRuns with tbi := { probeRuns.tbi with hold := true }, txe := { probeRuns.txe with waiting := true } }, 7,
     by decide +kernel⟩⟩

theorem witness_PortResetsClearAndDepart :
    (∃ (s : State) (p : HostId), (s.port p).resetLow = false ∧ s.isMember p = false ∧ (s.port p).discard = false ∧
      (s.port p).state ≠ .busy) ∧
    (∃ (s : State) (p : HostId) (c : Captured), (s.port p).resetLow = false ∧ s.isMember p = false ∧ (s.port
      p).discard = false ∧ (s.port p).state = .busy ∧ (s.port p).captured = some c ∧ c.code = 0x01) ∧
    (∃ (s : State) (p : HostId) (c : Captured), (s.port p).resetLow = false ∧ s.isMember p = false ∧ (s.port p).state
      = .busy ∧ (s.port p).captured = some c ∧ c.code = 0x02) ∧
    (∃ (s : State) (p : HostId), (s.port p).resetLow = false ∧ s.isMember p = false ∧ (s.port p).discard = true) ∧
    (∃ (s : State) (p : HostId), (s.port p).resetLow = false ∧ s.isMember p = true ∧ s.agu.proposal = none ∧ (s.port
      p).state ≠ .busy ∧ (s.port p).discard = false) :=
  ⟨⟨base, 3, by decide +kernel⟩,
   ⟨lastUnit .portReset 0x01, 2, ⟨0x01, .replicate 8 0, .replicate 24 0⟩, by decide +kernel⟩,
   ⟨lastUnit .leave 0x02, 2, ⟨0x02, .replicate 8 0, .replicate 24 0⟩, by decide +kernel⟩,
   ⟨(lastUnit .leave 0x02).modPort 2 fun q => { q with discard := true }, 2, by decide +kernel⟩,
   ⟨base, 1, by decide +kernel⟩⟩

theorem witness_TickAdvancesTheCounter :
    (∃ (s : State), s.ctm.timebase = .cycling ∧ s.ctm.counter + 1 < s.ctm.params.length) ∧
    (∃ (s : State), quiet s ∧ s.ctm.timebase = .cycling ∧ s.ctm.counter + 1 < s.ctm.params.length) ∧
    (∃ (s : State), quiet s ∧ s.ctm.timebase ≠ .cycling) :=
  ⟨⟨at_ 998 .free, by decide +kernel⟩,
   ⟨at_ 998 .free, by unfold quiet; decide +kernel⟩,
   ⟨base, by unfold quiet; decide +kernel⟩⟩

theorem witness_CountMakesABoundary :
    (∃ (s : State), quiet s ∧ s.ctm.timebase = .cycling ∧ s.ctm.params.mode = .free ∧ s.ctm.counter + 1 =
      s.ctm.params.length ∧ s.ctm.slot = none) ∧
    (∃ (s : State) (n : CycleParams), quiet s ∧ s.ctm.timebase = .cycling ∧ s.ctm.params.mode = .free ∧ s.ctm.counter
      + 1 = s.ctm.params.length ∧ s.ctm.slot = some n ∧ s.ctm.sync = .unsynced ∧ n.run = .run ∧ n.mode = .free) ∧
    (∃ (s : State) (n : CycleParams), quiet s ∧ s.ctm.timebase = .cycling ∧ s.ctm.params.mode = .free ∧ s.ctm.counter
      + 1 = s.ctm.params.length ∧ s.ctm.slot = some n ∧ s.ctm.sync = .unsynced ∧ n.run = .stop) ∧
    (∃ (s : State) (n : CycleParams), quiet s ∧ s.ctm.timebase = .cycling ∧ s.ctm.params.mode = .free ∧ s.ctm.counter
      + 1 = s.ctm.params.length ∧ s.ctm.slot = some n ∧ s.ctm.sync = .unsynced ∧ n.run = .run ∧ n.mode = .follow) ∧
    (∃ (s : State), quiet s ∧ s.ctm.timebase = .cycling ∧ s.ctm.params.mode = .follow ∧ s.ctm.counter + 1 =
      s.ctm.params.length ∧ s.ctm.slot = none) ∧
    (∃ (s : State) (q : CycleParams), quiet s ∧ s.ctm.timebase = .cycling ∧ s.ctm.params.mode = .follow ∧
      s.ctm.counter + 1 = s.ctm.params.length ∧ s.ctm.slot = some q) :=
  ⟨⟨at_ 999 .free, by unfold quiet; decide +kernel⟩,
   ⟨slotted freeParams (at_ 999 .free), freeParams, by unfold quiet; decide +kernel⟩,
   ⟨slotted resetParams (at_ 999 .free), resetParams, by unfold quiet; decide +kernel⟩,
   ⟨slotted { freeParams with mode := .follow } (at_ 999 .free), { freeParams with mode := .follow },
     by unfold quiet; decide +kernel⟩,
   ⟨{ at_ 999 .follow with ctm := { (at_ 999 .follow).ctm with sync := .holdover, missed := 3 } },
     by unfold quiet; decide +kernel⟩,
   ⟨slotted resetParams (at_ 999 .follow), resetParams, by unfold quiet; decide +kernel⟩⟩

theorem witness_SyncPulseByStateAndCounter :
    (∃ (s : State), (s.ctm.timebase = .stopped ∨ (s.ctm.timebase = .cycling ∧ s.ctm.params.mode = .free))) ∧
    (∃ (s : State), (s.ctm.timebase = .stopped ∨ (s.ctm.timebase = .cycling ∧ s.ctm.params.mode = .free))) ∧
    (∃ (s : State), s.ctm.timebase = .cycling ∧ s.ctm.params.mode = .follow ∧ s.ctm.counter < s.ctm.params.length -
      s.ctm.params.window ∧ s.ctm.early = true) ∧
    (∃ (s : State), s.ctm.timebase = .cycling ∧ s.ctm.params.mode = .follow ∧ s.ctm.counter < s.ctm.params.length -
      s.ctm.params.window ∧ s.ctm.early = false) ∧
    (∃ (s : State), s.ctm.timebase = .cycling ∧ s.ctm.params.mode = .follow ∧ s.ctm.params.length -
      s.ctm.params.window ≤ s.ctm.counter ∧ s.ctm.slot = none) ∧
    (∃ (s : State) (q : CycleParams), s.ctm.timebase = .cycling ∧ s.ctm.params.mode = .follow ∧ s.ctm.params.length -
      s.ctm.params.window ≤ s.ctm.counter ∧ s.ctm.slot = some q) ∧
    (∃ (s : State), s.ctm.timebase = .acquiring ∧ s.ctm.sync = .unsynced ∧ (s.txe.state ≠ .idle ∨ (s.ota.probes = [] ∧
      ∀ h, s.queue h = []))) :=
  ⟨⟨base, by decide +kernel⟩,
   ⟨at_ 5 .free, by decide +kernel⟩,
   ⟨{ at_ 983 .follow with ctm := { (at_ 983 .follow).ctm with early := true } }, by decide +kernel⟩,
   ⟨at_ 983 .follow, by decide +kernel⟩,
   ⟨at_ 984 .follow, by decide +kernel⟩,
   ⟨slotted freeParams (at_ 984 .follow), freeParams, by decide +kernel⟩,
   ⟨{ base with ctm := { resetCtm with timebase := .acquiring } }, by decide +kernel⟩⟩

theorem witness_MillisecondMarksCountTheVote :
    (∃ (s : State) (r : Proposal), s.agu.proposal = some r ∧ r.state = .waiting ∧ 2 ≤ s.agu.voteTimer) ∧
    (∃ (s : State), (∀ r ∈ s.agu.proposal, r.state = .agreed)) ∧
    (∃ (s : State) (r : Proposal), s.agu.proposal = some r ∧ r.state = .waiting ∧ s.agu.voteTimer = 1) ∧
    (∃ (s : State) (r : Proposal), s.agu.proposal = some r ∧ r.state = .waiting ∧ s.agu.voteTimer = 1) :=
  ⟨⟨vote .waiting 2, ballot .waiting, by decide +kernel⟩,
   ⟨vote .agreed 2, by decide +kernel⟩,
   ⟨vote .waiting 1, ballot .waiting, by decide +kernel⟩,
   ⟨vote .waiting 1, ballot .waiting, by decide +kernel⟩⟩

theorem witness_WtuReactionAppliesTheEdits :
    (∃ (s : State), s.wtu.boundaryDue = false) ∧
    (∃ (s : State), s.wtu.boundaryDue = true ∧ noRetiring s) :=
  ⟨⟨base, by decide +kernel⟩,
   ⟨{ tabled with wtu := { tabled.wtu with boundaryDue := true, edits := [⟨5, 0, .remove⟩] } },
     by unfold noRetiring; decide +kernel⟩⟩

theorem witness_TbiReactionTakesThePendingSettings :
    (∃ (s : State), s.tbi.boundaryDue = false) ∧
    (∃ (s : State), s.tbi.boundaryDue = true ∧ s.tbi.pendingSettings = none) ∧
    (∃ (s : State) (n : TargetSettings), s.tbi.boundaryDue = true ∧ s.tbi.pendingSettings = some n ∧ s.target n.target
      = .online) :=
  ⟨⟨base, by decide +kernel⟩,
   ⟨{ base with tbi := { base.tbi with boundaryDue := true } }, by decide +kernel⟩,
   ⟨{ online with tbi := { online.tbi with boundaryDue := true, pendingSettings := some (settings false) } }, settings
     false, by decide +kernel⟩⟩

theorem witness_OtaReactionLowersDeadlinesAndExpires :
    (∃ (s : State), s.ota.boundaryDue = false) ∧
    (∃ (s : State), s.ota.boundaryDue = true ∧ s.txe.state ≠ .idle ∧ (∀ h, ∀ r ∈ s.queue h, r.deadline ≠ 1)) ∧
    (∃ (s : State) (h : HostId) (pre post : List Request) (r : Request), s.ota.boundaryDue = true ∧ s.txe.state ≠
      .idle ∧ (∀ k, k < h → ∀ x ∈ s.queue k, x.deadline ≠ 1) ∧ s.queue h = pre ++ r :: post ∧ (∀ x ∈ pre, x.deadline ≠
      1) ∧ r.deadline = 1) :=
  ⟨⟨base, by decide +kernel⟩,
   ⟨{ queued with ota := { queued.ota with boundaryDue := true } }, by decide +kernel⟩,
   ⟨{ expiringQueue with ota := { expiringQueue.ota with boundaryDue := true } }, 0, [], [], { ask with deadline := 1 },
     by decide +kernel⟩⟩

theorem witness_WindowStartClaimsABankAndBeginsItsFirstAccess :
    (∃ (s : State) (pre post : List Window) (w : Window) (g : Segment) (gs : List Segment) (r : Region) (b : Nat) (k :
      Bank), dueIs s pre post w ∧ w.dir = .dirIn ∧ w.segs = g :: gs ∧ 0 < w.dur ∧ s.txe.state = .idle ∧ s.target
      w.target = .online ∧ s.tbi.hold = false ∧ s.region w.region = some r ∧ r.banks[b]? = some k ∧ k.role = .free ∧
      (∀ x ∈ r.banks.take b, x.role ≠ .free)) ∧
    (∃ (s : State) (pre post : List Window) (w : Window) (g : Segment) (gs : List Segment) (r : Region) (b : Nat) (k :
      Bank), dueIs s pre post w ∧ w.dir = .dirOut ∧ w.segs = g :: gs ∧ 0 < w.dur ∧ s.txe.state = .idle ∧ s.target
      w.target = .online ∧ s.tbi.hold = false ∧ s.region w.region = some r ∧ r.banks[b]? = some k ∧ k.role =
      .published ∧ (∀ x ∈ r.banks.take b, x.role ≠ .published)) :=
  ⟨⟨due .dirIn .input .free, [], [], win .dirIn, seg, [], region .input [bank .free, bank .held], 0, bank .free,
     by unfold dueIs; decide +kernel⟩,
   ⟨due .dirOut .output .published, [], [], win .dirOut, seg, [], region .output [bank .published, bank .held], 0, bank
     .published, by unfold dueIs; decide +kernel⟩⟩

theorem witness_FailedStartEndsAtOnce :
    (∃ (s : State) (pre post : List Window) (w : Window) (r : Region) (st : WindowStatus), dueIs s pre post w ∧ 0 <
      w.dur ∧ s.txe.state = .idle ∧ w.notify = true ∧ s.region w.region = some r ∧ (∀ x ∈ s.wtu.runs, x.id ≠ w.id) ∧
      (∀ v ∈ pre, v.id ≠ w.id) ∧ (∀ v ∈ post, v.id ≠ w.id) ∧ ((s.target w.target = .disabled ∧ st = .targetDisabled) ∨
      ((s.target w.target = .faulted ∨ s.target w.target = .probing) ∧ st = .targetFaulted) ∨ (s.target w.target =
      .online ∧ w.dir = .dirIn ∧ (∀ k ∈ r.banks, k.role ≠ .free) ∧ st = .noBank) ∨ (s.target w.target = .online ∧
      w.dir = .dirOut ∧ (∀ k ∈ r.banks, k.role ≠ .published) ∧ st = .noData))) ∧
    (∃ (s : State) (pre post : List Window) (w : Window) (r : Region) (st : WindowStatus), dueIs s pre post w ∧ 0 <
      w.dur ∧ s.txe.state = .idle ∧ w.notify = true ∧ s.region w.region = some r ∧ (∀ x ∈ s.wtu.runs, x.id ≠ w.id) ∧
      (∀ v ∈ pre, v.id ≠ w.id) ∧ (∀ v ∈ post, v.id ≠ w.id) ∧ ((s.target w.target = .disabled ∧ st = .targetDisabled) ∨
      ((s.target w.target = .faulted ∨ s.target w.target = .probing) ∧ st = .targetFaulted) ∨ (s.target w.target =
      .online ∧ w.dir = .dirIn ∧ (∀ k ∈ r.banks, k.role ≠ .free) ∧ st = .noBank) ∨ (s.target w.target = .online ∧
      w.dir = .dirOut ∧ (∀ k ∈ r.banks, k.role ≠ .published) ∧ st = .noData))) ∧
    (∃ (s : State) (pre post : List Window) (w : Window) (r : Region) (st : WindowStatus), dueIs s pre post w ∧ 0 <
      w.dur ∧ s.txe.state = .idle ∧ w.notify = true ∧ s.region w.region = some r ∧ (∀ x ∈ s.wtu.runs, x.id ≠ w.id) ∧
      (∀ v ∈ pre, v.id ≠ w.id) ∧ (∀ v ∈ post, v.id ≠ w.id) ∧ ((s.target w.target = .disabled ∧ st = .targetDisabled) ∨
      ((s.target w.target = .faulted ∨ s.target w.target = .probing) ∧ st = .targetFaulted) ∨ (s.target w.target =
      .online ∧ w.dir = .dirIn ∧ (∀ k ∈ r.banks, k.role ≠ .free) ∧ st = .noBank) ∨ (s.target w.target = .online ∧
      w.dir = .dirOut ∧ (∀ k ∈ r.banks, k.role ≠ .published) ∧ st = .noData))) ∧
    (∃ (s : State) (pre post : List Window) (w : Window) (r : Region) (st : WindowStatus), dueIs s pre post w ∧ 0 <
      w.dur ∧ s.txe.state = .idle ∧ w.notify = true ∧ s.region w.region = some r ∧ (∀ x ∈ s.wtu.runs, x.id ≠ w.id) ∧
      (∀ v ∈ pre, v.id ≠ w.id) ∧ (∀ v ∈ post, v.id ≠ w.id) ∧ ((s.target w.target = .disabled ∧ st = .targetDisabled) ∨
      ((s.target w.target = .faulted ∨ s.target w.target = .probing) ∧ st = .targetFaulted) ∨ (s.target w.target =
      .online ∧ w.dir = .dirIn ∧ (∀ k ∈ r.banks, k.role ≠ .free) ∧ st = .noBank) ∨ (s.target w.target = .online ∧
      w.dir = .dirOut ∧ (∀ k ∈ r.banks, k.role ≠ .published) ∧ st = .noData))) ∧
    (∃ (s : State) (pre post : List Window) (w : Window) (r : Region) (st : WindowStatus), dueIs s pre post w ∧ 0 <
      w.dur ∧ s.txe.state = .idle ∧ w.notify = true ∧ s.region w.region = some r ∧ (∀ x ∈ s.wtu.runs, x.id ≠ w.id) ∧
      (∀ v ∈ pre, v.id ≠ w.id) ∧ (∀ v ∈ post, v.id ≠ w.id) ∧ ((s.target w.target = .disabled ∧ st = .targetDisabled) ∨
      ((s.target w.target = .faulted ∨ s.target w.target = .probing) ∧ st = .targetFaulted) ∨ (s.target w.target =
      .online ∧ w.dir = .dirIn ∧ (∀ k ∈ r.banks, k.role ≠ .free) ∧ st = .noBank) ∨ (s.target w.target = .online ∧
      w.dir = .dirOut ∧ (∀ k ∈ r.banks, k.role ≠ .published) ∧ st = .noData))) :=
  ⟨⟨due .dirIn .input .published, [], [], win .dirIn, region .input [bank .published, bank .held], .noBank,
     by unfold dueIs; decide +kernel⟩,
   ⟨due .dirOut .output .free, [], [], win .dirOut, region .output [bank .free, bank .held], .noData,
     by unfold dueIs; decide +kernel⟩,
   ⟨target .disabled (due .dirIn .input .free), [], [], win .dirIn, region .input [bank .free, bank .held],
     .targetDisabled, by unfold dueIs; decide +kernel⟩,
   ⟨target .faulted (due .dirIn .input .free), [], [], win .dirIn, region .input [bank .free, bank .held],
     .targetFaulted, by unfold dueIs; decide +kernel⟩,
   ⟨target .probing (due .dirOut .output .published), [], [], win .dirOut, region .output [bank .published, bank .held],
     .targetFaulted, by unfold dueIs; decide +kernel⟩⟩

theorem witness_WindowEndTimeReleasesOrIsTaken :
    (∃ (s : State) (e : SpentEnd), s.txe.state = .window ∧ s.txe.spent = some e ∧ (e.crossed = true ∨ e.endTime ≤
      s.ctm.counter) ∧ s.txe.pendingStart = none ∧ s.ota.probes = [] ∧ (∀ h, s.queue h = [])) ∧
    (∃ (s : State) (c : RunCopy) (a : Access), s.txe.state = .window ∧ s.txe.ctx = some c ∧ s.txe.spent = none ∧
      s.txe.endTaken = false ∧ (c.crossed = true ∨ c.endTime ≤ s.ctm.counter) ∧ s.tbi.access = some a) :=
  ⟨⟨spentAt 900, ⟨900, false⟩, by decide +kernel⟩,
   ⟨runningAt 900 .dirIn, copy .dirIn, access .window, by decide +kernel⟩⟩

theorem witness_StartFindsTheEngineBusy :
    (∃ (s : State) (pre post : List Window) (w : Window) (a : Access), dueIs s pre post w ∧ s.txe.state = .openRun ∧
      s.tbi.access = some a ∧ s.txe.pendingStart = none) ∧
    (∃ (s : State) (pre post : List Window) (w : Window) (r : RunningReq), dueIs s pre post w ∧ 0 < w.dur ∧ w.segs ≠
      [] ∧ w.notify = false ∧ s.txe.state = .openRun ∧ s.tbi.access = none ∧ s.ota.running = some r ∧ r.former = false
      ∧ (s.region w.region).isSome = true) ∧
    (∃ (s : State) (pre post : List Window) (w : Window) (a : Access), dueIs s pre post w ∧ s.txe.state = .window ∧
      s.txe.spent = none ∧ s.tbi.access = some a ∧ s.txe.pendingStart = none) ∧
    (∃ (s : State) (pre post : List Window) (w v : Window) (a : Access) (c : RunCopy) (r : Region) (old young : List
      OutRun), dueIs s pre post w ∧ s.txe.state = .window ∧ s.txe.spent = none ∧ s.tbi.access = some a ∧
      s.txe.pendingStart = some c ∧ s.region c.region = some r ∧ c.notify = true ∧ s.wtu.runs = old ++ ⟨c.id, c.cycle,
      false⟩ :: young ∧ (∀ x ∈ old, x.id ≠ c.id ∨ x.cycle ≠ c.cycle) ∧ findWindow c.id s.wtu.table = some v ∧ v.cond =
      .active) ∧
    (∃ (s : State) (pre post : List Window) (w : Window) (e : SpentEnd), dueIs s pre post w ∧ s.txe.state = .window ∧
      s.txe.spent = some e) :=
  ⟨⟨dueBusy .openRun (some (access .request)), [], [], win .dirIn, access .request, by unfold dueIs; decide +kernel⟩,
   ⟨{ quietly (dueBusy .openRun none) with ota := { resetOta with running := some ⟨0, ask, false, 0, 0⟩ } }, [], [], {
     win .dirIn with notify := false }, ⟨0, ask, false, 0, 0⟩, by unfold dueIs; decide +kernel⟩,
   ⟨dueBusy .window (some (access .window)), [], [], win .dirIn, access .window, by unfold dueIs; decide +kernel⟩,
   ⟨dueTwice, [earlyWin], [], win .dirIn, earlyWin, access .window, earlyWin.copy 0, region .input [bank .free, bank
     .held], [], [], by unfold dueIs; decide +kernel⟩,
   ⟨{ due .dirIn .input .free with txe := (spentAt 500).txe }, [], [], win .dirIn, ⟨900, false⟩,
     by unfold dueIs; decide +kernel⟩⟩

theorem witness_AccessEndSettlesWhatWaited :
    (∃ (s : State) (c : RunCopy) (a : Access) (b : Nat) (k : Bank) (r : Region) (g : Segment) (_ : Word) (v : Window),
      s.txe.state = .window ∧ s.txe.ctx = some c ∧ c.dir = .dirIn ∧ c.notify = false ∧ s.txe.claim = some ⟨b, 0⟩ ∧
      s.region c.region = some r ∧ c.segs[s.txe.seg]? = some g ∧ s.txe.endTaken = true ∧ s.tbi.access = some a ∧
      a.kind = .window ∧ a.timedOut = false ∧ a.phase = .strobe ∧ s.rgm.claim = some ⟨.fill, c.region, b⟩ ∧
      r.banks[b]? = some k ∧ r.retire = none ∧ 32 * (r.base + b * r.size) + (g.offset + s.txe.word) < 24576 ∧
      s.wtu.runs = [⟨c.id, c.cycle, false⟩] ∧ s.wtu.table = [v] ∧ v.id = c.id ∧ s.txe.pendingStart = none ∧
      s.ota.probes = [] ∧ (∀ h, s.queue h = [])) ∧
    (∃ (s : State) (r : RunningReq) (a : Access) (c : RunCopy) (_ : Word), s.memoryOk ∧ s.txe.state = .openRun ∧
      s.ota.running = some r ∧ r.former = false ∧ s.tbi.access = some a ∧ a.kind = .request ∧ a.timedOut = false ∧
      r.done + 1 < r.req.count ∧ (r.req.kind = .blockRead → r.req.offset + r.done < 256) ∧ s.txe.pendingStart = some c
      ∧ c.crossed = false ∧ s.ctm.counter < c.endTime ∧ c.segs ≠ [] ∧ c.notify = false ∧ (s.region c.region).isSome =
      true) ∧
    (∃ (s : State) (r : RunningReq) (a : Access) (c : RunCopy) (_ : Word) (v : Window), s.memoryOk ∧ s.txe.state =
      .openRun ∧ s.ota.running = some r ∧ r.former = false ∧ s.tbi.access = some a ∧ a.kind = .request ∧ a.timedOut =
      false ∧ r.done + 1 < r.req.count ∧ (r.req.kind = .blockRead → r.req.offset + r.done < 256) ∧ s.txe.pendingStart
      = some c ∧ (c.crossed = true ∨ c.endTime ≤ s.ctm.counter) ∧ c.notify = false ∧ (s.region c.region).isSome = true
      ∧ s.wtu.runs = [⟨c.id, c.cycle, false⟩] ∧ s.wtu.table = [v] ∧ v.id = c.id ∧ s.ota.probes = [] ∧ (∀ h, s.queue h
      = [])) :=
  ⟨⟨overrunning, { copy .dirIn with notify := false }, access .window, 0, filling, region .input [filling], seg, 0xBEEF,
     win .dirIn, by decide +kernel⟩,
   ⟨requestAhead 600, ⟨0, blockAsk, false, 0, 0⟩, access .request, { copy .dirIn with notify := false }, 0xBEEF,
     by unfold State.memoryOk; decide +kernel⟩,
   ⟨requestAhead 900, ⟨0, blockAsk, false, 0, 0⟩, access .request, { copy .dirIn with notify := false }, 0xBEEF, win
     .dirIn, by unfold State.memoryOk; decide +kernel⟩⟩

theorem witness_OpenTimeEndStopsTheRequest :
    (∃ (s : State) (a : Access), s.txe.state = .openRun ∧ s.txe.stopping = false ∧ openTimeEnded s ∧ s.tbi.access =
      some a) ∧
    (∃ (s : State) (a : Access), s.txe.state = .openRun ∧ s.txe.stopping = false ∧ openTimeEnded s ∧ s.tbi.access =
      some a) ∧
    (∃ (s : State) (r : RunningReq), s.txe.state = .openRun ∧ s.txe.stopping = false ∧ openTimeEnded s ∧ s.tbi.access
      = none ∧ s.ota.running = some r ∧ s.txe.pendingStart = none ∧ s.ota.probes = [] ∧ (∀ h, s.queue h = [])) ∧
    (∃ (s : State) (r : RunningReq), s.txe.state = .openRun ∧ s.txe.stopping = false ∧ openTimeEnded s ∧ s.tbi.access
      = none ∧ s.ota.running = some r ∧ s.txe.pendingStart = none ∧ s.ota.probes = [] ∧ (∀ h, s.queue h = [])) ∧
    (∃ (s : State) (x : TargetId), s.txe.state = .openRun ∧ s.txe.stopping = false ∧ openTimeEnded s ∧ s.tbi.access =
      none ∧ s.ota.running = none ∧ s.ota.probing = some x ∧ s.txe.pendingStart = none ∧ (∀ h, s.queue h = []) ∧
      s.target x = .probing ∧ ¬fitsOpen s (probeTicks s x)) ∧
    (∃ (s : State) (x : TargetId), s.txe.state = .openRun ∧ s.txe.stopping = false ∧ openTimeEnded s ∧ s.tbi.access =
      none ∧ s.ota.running = none ∧ s.ota.probing = some x ∧ s.txe.pendingStart = none ∧ (∀ h, s.queue h = []) ∧
      s.target x = .probing ∧ fitsOpen s (probeTicks s x) ∧ noStartDue s ∧ s.tbi.hold = false) ∧
    (∃ (s : State) (x : TargetId), s.txe.state = .openRun ∧ s.txe.stopping = false ∧ openTimeEnded s ∧ s.tbi.access =
      none ∧ s.ota.running = none ∧ s.ota.probing = some x ∧ s.txe.pendingStart = none ∧ (∀ h, s.queue h = []) ∧
      s.target x ≠ .probing ∧ s.ota.probes = []) :=
  ⟨⟨{ betweenAccesses with tbi := { base.tbi with access := some (access .request) } }, access .request,
     by unfold openTimeEnded; decide +kernel⟩,
   ⟨afterBoundary { betweenAccesses with tbi := { base.tbi with access := some (access .request) } }, access .request,
     by unfold openTimeEnded; decide +kernel⟩,
   ⟨betweenAccesses, ⟨0, ask, false, 0, 0⟩, by unfold openTimeEnded; decide +kernel⟩,
   ⟨afterBoundary betweenAccesses, ⟨0, ask, false, 0, 0⟩, by unfold openTimeEnded; decide +kernel⟩,
   ⟨probeBetween .probing, 7, by unfold openTimeEnded fitsOpen; decide +kernel⟩,
   ⟨afterBoundary (probeBetween .probing), 7, by unfold openTimeEnded fitsOpen noStartDue; decide +kernel⟩,
   ⟨probeBetween .disabled, 7, by unfold openTimeEnded; decide +kernel⟩⟩

theorem witness_ReadyTimeoutEndsTheStrobeAndFaultsTheTarget :
    (∃ (s : State) (a : Access), s.tbi.access = some a ∧ a.profile.handshake = true ∧ a.phase ≠ .recovery) ∧
    (∃ (s : State) (c : RunCopy) (a : Access) (b : Nat) (k : Bank) (r : Region) (gen : BitVec 32) (_ : Word) (v :
      Window), s.txe.state = .window ∧ s.txe.ctx = some c ∧ c.dir = .dirOut ∧ c.notify = false ∧ s.txe.claim = some
      ⟨b, gen⟩ ∧ s.region c.region = some r ∧ s.txe.endTaken = false ∧ c.crossed = false ∧ s.ctm.counter < c.endTime ∧
      s.tbi.access = some a ∧ a.kind = .window ∧ a.target = c.target ∧ a.timedOut = true ∧ s.target c.target = .online
      ∧ s.rgm.claim = some ⟨.drain, c.region, b⟩ ∧ r.banks[b]? = some k ∧ k.role = .published ∧ r.retire = none ∧
      s.wtu.runs = [⟨c.id, c.cycle, false⟩] ∧ s.wtu.table = [v] ∧ v.id = c.id) :=
  ⟨⟨{ base with tbi := { base.tbi with access := some { access .window with profile := { resetProfile with handshake :=
     true } } } }, { access .window with profile := { resetProfile with handshake := true } }, by decide +kernel⟩,
   ⟨timedOut, copy .dirOut, { access .window with timedOut := true }, 0, drained, region .output [drained], 5, 0, win
     .dirOut, by decide +kernel⟩⟩

theorem witness_WindowAccessGoesOnToTheNextWord :
    (∃ (s : State) (c : RunCopy) (a : Access) (k : BankClaim) (r : Region) (g n : Segment) (_ : Word), s.memoryOk ∧
      s.txe.state = .window ∧ s.txe.ctx = some c ∧ c.dir = .dirIn ∧ s.txe.claim = some k ∧ s.region c.region = some r
      ∧ c.segs[s.txe.seg]? = some g ∧ c.segs[(positionAfter s.txe g).1]? = some n ∧ s.txe.endTaken = false ∧
      s.tbi.hold = false ∧ s.target c.target = .online ∧ s.tbi.access = some a ∧ a.kind = .window ∧ a.timedOut = false
      ∧ 32 * (r.base + k.bank * r.size) + (g.offset + s.txe.word) < 24576) ∧
    (∃ (s : State) (c : RunCopy) (a : Access) (k : BankClaim) (r : Region) (g n : Segment) (_ : Word), s.memoryOk ∧
      s.txe.state = .window ∧ s.txe.ctx = some c ∧ c.dir = .dirIn ∧ s.txe.claim = some k ∧ s.region c.region = some r
      ∧ c.segs[s.txe.seg]? = some g ∧ c.segs[(positionAfter s.txe g).1]? = some n ∧ s.txe.endTaken = false ∧
      s.tbi.hold = false ∧ s.target c.target = .online ∧ s.tbi.access = some a ∧ a.kind = .window ∧ a.timedOut = false
      ∧ 32 * (r.base + k.bank * r.size) + (g.offset + s.txe.word) < 24576) ∧
    (∃ (s : State) (c : RunCopy) (a : Access) (k : BankClaim) (r : Region) (g n : Segment) (_ : Word), s.txe.state =
      .window ∧ s.txe.ctx = some c ∧ c.dir = .dirOut ∧ s.txe.claim = some k ∧ s.region c.region = some r ∧
      c.segs[s.txe.seg]? = some g ∧ c.segs[(positionAfter s.txe g).1]? = some n ∧ s.txe.endTaken = false ∧ s.tbi.hold
      = false ∧ s.target c.target = .online ∧ s.tbi.access = some a ∧ a.kind = .window ∧ a.timedOut = false) :=
  ⟨⟨runningAt 800 .dirIn, copy .dirIn, access .window, ⟨0, 0⟩, region .input [filling], seg, seg, 0xBEEF,
     by unfold State.memoryOk; decide +kernel⟩,
   ⟨atSegmentEnd, twoSegs, access .window, ⟨0, 0⟩, region .input [filling], seg, ⟨5, 1, 2, .step⟩, 0xBEEF,
     by unfold State.memoryOk; decide +kernel⟩,
   ⟨draining, copy .dirOut, access .window, ⟨0, 5⟩, region .output [drained], seg, seg, 0, by decide +kernel⟩⟩

theorem witness_LastWordEndsTheWindowDone :
    (∃ (s : State) (c : RunCopy) (a : Access) (b : Nat) (k : Bank) (r : Region) (segs : List Segment) (g : Segment) (_
      : Word) (v : Window), s.txe.state = .window ∧ s.txe.ctx = some c ∧ c.dir = .dirIn ∧ s.txe.claim = some ⟨b, 0⟩ ∧
      s.region c.region = some r ∧ c.segs = segs ++ [g] ∧ s.txe.seg = segs.length ∧ g.count ≤ s.txe.word + 1 ∧
      s.txe.endTaken = false ∧ s.tbi.access = some a ∧ a.kind = .window ∧ a.timedOut = false ∧ s.rgm.claim = some
      ⟨.fill, c.region, b⟩ ∧ r.banks[b]? = some k ∧ 32 * (r.base + b * r.size) + (g.offset + s.txe.word) < 24576 ∧
      s.wtu.runs = [⟨c.id, c.cycle, false⟩] ∧ s.wtu.table = [v] ∧ v.id = c.id ∧ s.txe.pendingStart = none ∧
      s.ota.probes = [] ∧ (∀ h, s.queue h = [])) ∧
    (∃ (s : State) (c : RunCopy) (a : Access) (b : Nat) (k : Bank) (r : Region) (segs : List Segment) (g : Segment) (_
      : Word) (v : Window), s.txe.state = .window ∧ s.txe.ctx = some c ∧ c.dir = .dirIn ∧ s.txe.claim = some ⟨b, 0⟩ ∧
      s.region c.region = some r ∧ c.segs = segs ++ [g] ∧ s.txe.seg = segs.length ∧ g.count ≤ s.txe.word + 1 ∧
      s.txe.endTaken = false ∧ s.tbi.access = some a ∧ a.kind = .window ∧ a.timedOut = false ∧ s.rgm.claim = some
      ⟨.fill, c.region, b⟩ ∧ r.banks[b]? = some k ∧ 32 * (r.base + b * r.size) + (g.offset + s.txe.word) < 24576 ∧
      s.wtu.runs = [⟨c.id, c.cycle, false⟩] ∧ s.wtu.table = [v] ∧ v.id = c.id ∧ s.txe.pendingStart = none ∧
      s.ota.probes = [] ∧ (∀ h, s.queue h = [])) ∧
    (∃ (s : State) (c : RunCopy) (a : Access) (b : Nat) (k : Bank) (r : Region) (segs : List Segment) (g : Segment) (_
      : Word) (v : Window) (gen : BitVec 32), s.txe.state = .window ∧ s.txe.ctx = some c ∧ c.dir = .dirOut ∧
      s.txe.claim = some ⟨b, gen⟩ ∧ s.region c.region = some r ∧ c.segs = segs ++ [g] ∧ s.txe.seg = segs.length ∧
      g.count ≤ s.txe.word + 1 ∧ s.txe.endTaken = false ∧ s.tbi.access = some a ∧ a.kind = .window ∧ a.timedOut =
      false ∧ s.rgm.claim = some ⟨.drain, c.region, b⟩ ∧ r.banks[b]? = some k ∧ s.wtu.runs = [⟨c.id, c.cycle, false⟩]
      ∧ s.wtu.table = [v] ∧ v.id = c.id ∧ s.txe.pendingStart = none ∧ s.ota.probes = [] ∧ (∀ h, s.queue h = [])) ∧
    (∃ (s : State) (c : RunCopy) (a : Access) (b : Nat) (k : Bank) (r : Region) (segs : List Segment) (g : Segment) (_
      : Word) (v : Window) (gen : BitVec 32), s.txe.state = .window ∧ s.txe.ctx = some c ∧ c.dir = .dirOut ∧
      s.txe.claim = some ⟨b, gen⟩ ∧ s.region c.region = some r ∧ c.segs = segs ++ [g] ∧ s.txe.seg = segs.length ∧
      g.count ≤ s.txe.word + 1 ∧ s.txe.endTaken = false ∧ s.tbi.access = some a ∧ a.kind = .window ∧ a.timedOut =
      false ∧ s.rgm.claim = some ⟨.drain, c.region, b⟩ ∧ r.banks[b]? = some k ∧ s.wtu.runs = [⟨c.id, c.cycle, false⟩]
      ∧ s.wtu.table = [v] ∧ v.id = c.id ∧ s.txe.pendingStart = none ∧ s.ota.probes = [] ∧ (∀ h, s.queue h = [])) :=
  ⟨⟨atLastWord (region .input [filling]) (runningAt 800 .dirIn), copy .dirIn, access .window, 0, filling, region .input
     [filling], [], seg, 0xBEEF, win .dirIn, by decide +kernel⟩,
   ⟨atLastWord (region .input [filling, readBank]) (runningAt 800 .dirIn), copy .dirIn, access .window, 0, filling,
     region .input [filling, readBank], [], seg, 0xBEEF, win .dirIn, by decide +kernel⟩,
   ⟨atLastWord (region .output [drained]) draining, copy .dirOut, access .window, 0, drained, region .output [drained],
     [], seg, 0, win .dirOut, 5, by decide +kernel⟩,
   ⟨freeingDrain, copy .dirOut, access .window, 0, lastHold, retired (region .output [lastHold]), [], seg, 0, moved, 5,
     by decide +kernel⟩⟩

theorem witness_RequestAccessEndsAWordOrTheRequest :
    (∃ (s : State) (r : RunningReq) (a : Access) (_ : Word), s.memoryOk ∧ requestRuns s r a ∧ a.timedOut = false ∧
      s.txe.stopping = false ∧ s.txe.pendingStart = none ∧ r.done + 1 < r.req.count ∧ r.req.kind ≠ .regRead ∧
      (r.req.kind = .blockRead → r.req.offset + r.done < 256) ∧ s.target r.req.target = .online ∧ s.tbi.hold = false) ∧
    (∃ (s : State) (r : RunningReq) (a : Access) (_ : Word), s.memoryOk ∧ requestRuns s r a ∧ a.timedOut = false ∧
      s.txe.pendingStart = none ∧ (r.req.kind = .blockRead → r.req.offset + r.done < 256) ∧ s.ota.probes = [] ∧ (∀ h,
      s.queue h = []) ∧ (r.req.count ≤ r.done + 1 ∨ s.txe.stopping = true) ∧ r.req.count ≤ r.done + 1) ∧
    (∃ (s : State) (r : RunningReq) (a : Access) (_ : Word), s.memoryOk ∧ requestRuns s r a ∧ a.timedOut = false ∧
      s.txe.pendingStart = none ∧ (r.req.kind = .blockRead → r.req.offset + r.done < 256) ∧ s.ota.probes = [] ∧ (∀ h,
      s.queue h = []) ∧ (r.req.count ≤ r.done + 1 ∨ s.txe.stopping = true) ∧ r.done + 1 < r.req.count) ∧
    (∃ (s : State) (r : RunningReq) (a : Access) (_ : Word), requestRuns s r a ∧ a.timedOut = true ∧
      s.txe.pendingStart = none ∧ s.ota.probes = [] ∧ (∀ h, s.queue h = []) ∧ s.target r.req.target = .online) :=
  ⟨⟨requesting blockAsk 254, ⟨0, blockAsk, false, 254, 0⟩, access .request, 0xBEEF,
     by unfold State.memoryOk requestRuns; decide +kernel⟩,
   ⟨requesting blockAsk 255, ⟨0, blockAsk, false, 255, 0⟩, access .request, 0xBEEF,
     by unfold State.memoryOk requestRuns; decide +kernel⟩,
   ⟨{ requesting blockAsk 0 with txe := { (requesting blockAsk 0).txe with stopping := true } }, ⟨0, blockAsk, false, 0,
     0⟩, access .request, 0xBEEF, by unfold State.memoryOk requestRuns; decide +kernel⟩,
   ⟨{ requesting ask 0 with tbi := { online.tbi with access := some { access .request with timedOut := true } } }, ⟨0,
     ask, false, 0, 0⟩, { access .request with timedOut := true }, 0, by unfold requestRuns; decide +kernel⟩⟩

theorem witness_ProbeOutcomeDecidesTheTarget :
    ∃ (s : State) (x : TargetId) (a : Access) (_ : Word), s.txe.state = .openRun ∧ s.ota.running = none ∧
      s.ota.probing = some x ∧ s.target x = .probing ∧ s.tbi.access = some a ∧ a.kind = .probe ∧ a.target = x ∧
      s.txe.pendingStart = none ∧ s.ota.probes = [] ∧ (∀ h, s.queue h = []) :=
  ⟨probeRuns, 7, access .probe, 0, by decide +kernel⟩

theorem witness_AgreedContentsReachTheirUnit :
    (∃ (s : State) (r : Proposal) (n : CycleParams), s.agu.handoverDue = true ∧ s.agu.proposal = some r ∧ r.contents =
      .cycle n ∧ s.ctm.timebase = .cycling) ∧
    (∃ (s : State) (r : Proposal) (n : TargetSettings), s.agu.handoverDue = true ∧ s.agu.proposal = some r ∧
      r.contents = .target n ∧ s.ctm.timebase = .cycling) ∧
    (∃ (s : State) (r : Proposal) (n : CycleParams), s.agu.handoverDue = true ∧ s.agu.proposal = some r ∧ r.contents =
      .cycle n ∧ s.ctm.timebase ≠ .cycling ∧ n.run = .stop) ∧
    (∃ (s : State) (r : Proposal) (n : CycleParams), s.agu.handoverDue = true ∧ s.agu.proposal = some r ∧ r.contents =
      .cycle n ∧ s.ctm.timebase ≠ .cycling ∧ n.run = .run ∧ n.mode = .free ∧ (s.txe.state ≠ .idle ∨ (s.ota.probes = []
      ∧ ∀ h, s.queue h = []))) ∧
    (∃ (s : State) (r : Proposal) (n : CycleParams), s.agu.handoverDue = true ∧ s.agu.proposal = some r ∧ r.contents =
      .cycle n ∧ s.ctm.timebase ≠ .cycling ∧ n.run = .run ∧ n.mode = .follow) ∧
    (∃ (s : State) (r : Proposal) (n : TargetSettings), s.agu.handoverDue = true ∧ s.agu.proposal = some r ∧
      r.contents = .target n ∧ s.ctm.timebase ≠ .cycling ∧ n.enable = true ∧ s.target n.target = .disabled ∧
      s.txe.state ≠ .idle ∧ s.ota.probes = [] ∧ s.ota.probing ≠ some n.target) :=
  ⟨⟨handed (at_ 5 .free) (.cycle freeParams), settled (.cycle freeParams), freeParams, by decide +kernel⟩,
   ⟨handed (at_ 5 .free) (.target (settings true)), settled (.target (settings true)), settings true, by decide +kernel⟩,
   ⟨handed base (.cycle resetParams), settled (.cycle resetParams), resetParams, by decide +kernel⟩,
   ⟨handed base (.cycle freeParams), settled (.cycle freeParams), freeParams, by decide +kernel⟩,
   ⟨handed base (.cycle { freeParams with mode := .follow }), settled (.cycle { freeParams with mode := .follow }), {
     freeParams with mode := .follow }, by decide +kernel⟩,
   ⟨{ handed base (.target (settings true)) with txe := { resetTxe with state := .openRun } }, settled (.target (settings
     true)), settings true, by decide +kernel⟩⟩

theorem witness_ApplicationAndLimitReports :
    (∃ (s : State) (r : Proposal), s.agu.appliedDue = true ∧ s.agu.proposal = some r) ∧
    (∃ (s : State), s.wtu.limitClearDue = true) ∧
    (∃ (s : State), s.wtu.limitClearDue = false) :=
  ⟨⟨{ handed base (.cycle resetParams) with agu := { (handed base (.cycle resetParams)).agu with appliedDue := true } },
     settled (.cycle resetParams), by decide +kernel⟩,
   ⟨{ base with wtu := { resetWtu with limitClearDue := true } }, by decide +kernel⟩,
   ⟨base, by decide +kernel⟩⟩

theorem witness_CtmPortAndOtaTakeADeparture :
    (∃ (s : State) (h : HostId) (d : Departure), s.departure h = some d ∧ .ctm ∈ d.awaiting ∧ (∃ x ∈ d.awaiting, x ≠
      .ctm)) ∧
    (∃ (s : State) (h : HostId) (d : Departure), s.departure h = some d ∧ .port ∈ d.awaiting ∧ (∃ x ∈ d.awaiting, x ≠
      .port)) ∧
    (∃ (s : State) (h : HostId) (d : Departure), s.departure h = some d ∧ .ota ∈ d.awaiting ∧ (∃ x ∈ d.awaiting, x ≠
      .ota) ∧ s.txe.state ≠ .idle) :=
  ⟨⟨leaving, 2, ⟨.leave, departureUnits⟩, by decide +kernel⟩,
   ⟨leaving, 2, ⟨.leave, departureUnits⟩, by decide +kernel⟩,
   ⟨{ leaving with txe := { resetTxe with state := .window } }, 2, ⟨.leave, departureUnits⟩, by decide +kernel⟩⟩

theorem witness_WtuDepartureOrphansTheWindows :
    (∃ (s : State) (h : HostId) (d : Departure), s.departure h = some d ∧ .wtu ∈ d.awaiting ∧ (∃ x ∈ d.awaiting, x ≠
      .wtu) ∧ s.ctm.timebase = .cycling ∧ noRetiring s) ∧
    (∃ (s : State) (h : HostId) (d : Departure), s.departure h = some d ∧ .wtu ∈ d.awaiting ∧ (∃ x ∈ d.awaiting, x ≠
      .wtu) ∧ s.ctm.timebase ≠ .cycling ∧ noRetiring s) :=
  ⟨⟨{ leaving with ctm := (at_ 5 .free).ctm }, 2, ⟨.leave, departureUnits⟩, by unfold noRetiring; decide +kernel⟩,
   ⟨leaving, 2, ⟨.leave, departureUnits⟩, by unfold noRetiring; decide +kernel⟩⟩

theorem witness_RgmDepartureClosesAndRetires :
    (∃ (s : State) (h : HostId) (d : Departure) (i : RegionId) (r : Region), s.departure h = some d ∧ .rgm ∈
      d.awaiting ∧ (∃ x ∈ d.awaiting, x ≠ .rgm) ∧ s.region i = some r ∧ r.owner ≠ h ∧ (∀ a, ∀ x ∈ s.readHandle h a,
      x.region ≠ i) ∧ (∀ x ∈ s.writeHandle h, x.region ≠ i)) ∧
    (∃ (s : State) (h : HostId) (d : Departure) (a : Fin 4) (x : Handle) (r : Region) (k : Bank), s.departure h = some
      d ∧ .rgm ∈ d.awaiting ∧ (∃ x ∈ d.awaiting, x ≠ .rgm) ∧ s.readHandle h a = some x ∧ s.region x.region = some r ∧
      r.owner ≠ h ∧ r.retire = none ∧ r.banks[x.bank]? = some k ∧ (∀ c, c ≠ a → ∀ y ∈ s.readHandle h c, y.region ≠
      x.region) ∧ (∀ y ∈ s.writeHandle h, y.region ≠ x.region)) ∧
    (∃ (s : State) (h : HostId) (d : Departure) (i : RegionId) (r : Region), s.departure h = some d ∧ .rgm ∈
      d.awaiting ∧ (∃ x ∈ d.awaiting, x ≠ .rgm) ∧ s.region i = some r ∧ r.owner = h ∧ (∀ a, ∀ x ∈ s.readHandle h a,
      x.region ≠ i) ∧ (∀ x ∈ s.writeHandle h, x.region ≠ i)) ∧
    (∃ (s : State) (h : HostId) (d : Departure) (x : Handle) (r : Region) (k : Bank), s.departure h = some d ∧ .rgm ∈
      d.awaiting ∧ (∃ x ∈ d.awaiting, x ≠ .rgm) ∧ s.writeHandle h = some x ∧ s.region x.region = some r ∧ r.owner = h
      ∧ r.banks[x.bank]? = some k ∧ (∀ a, ∀ y ∈ s.readHandle h a, y.region ≠ x.region)) :=
  ⟨⟨departs (held .input [bank .free]), 2, ⟨.leave, departureUnits⟩, 2, region .input [bank .free], by decide +kernel⟩,
   ⟨departs reading2, 2, ⟨.leave, departureUnits⟩, 3, ⟨2, 0, 5⟩, region .input [{ bank .held with pins := 4 }], { bank
     .held with pins := 4 }, by decide +kernel⟩,
   ⟨departs (ownedBy2 (held .input [bank .free])), 2, ⟨.leave, departureUnits⟩, 2, owned (region .input [bank .free]),
     by decide +kernel⟩,
   ⟨departs writing2, 2, ⟨.leave, departureUnits⟩, ⟨2, 0, 5⟩, owned (region .output [written]), written,
     by decide +kernel⟩⟩

theorem witness_LastConfirmationCompletesTheDeparture :
    (∃ (s : State) (h : HostId) (c : Captured), s.departure h = some ⟨.leave, [.port]⟩ ∧ (s.port h).state = .busy ∧
      (s.port h).discard = false ∧ (s.port h).captured = some c) ∧
    (∃ (s : State) (h : HostId) (c : Captured), s.departure h = some ⟨.portReset, [.port]⟩ ∧ (s.port h).state = .busy
      ∧ (s.port h).discard = false ∧ (s.port h).captured = some c ∧ c.code = 0x01) :=
  ⟨⟨lastUnit .leave 0x02, 2, ⟨0x02, .replicate 8 0, .replicate 24 0⟩, by decide +kernel⟩,
   ⟨lastUnit .portReset 0x01, 2, ⟨0x01, .replicate 8 0, .replicate 24 0⟩, by decide +kernel⟩⟩

theorem witness_JoinAdmitsTheHost :
    (∃ (s : State) (p : HostId), s.ready p ∧ s.isMember p = false ∧ s.departure p = none) ∧
    (∃ (s : State) (p : HostId), s.ready p ∧ s.isMember p = true) ∧
    (∃ (s : State) (p : HostId) (d : Departure), s.ready p ∧ s.isMember p = false ∧ s.departure p = some d) :=
  ⟨⟨base, 3, by unfold State.ready; decide +kernel⟩,
   ⟨base, 0, by unfold State.ready; decide +kernel⟩,
   ⟨leaving, 2, ⟨.leave, departureUnits⟩, by unfold State.ready; decide +kernel⟩⟩

theorem witness_LeaveIsADeparture :
    (∃ (s : State) (p : HostId), s.ready p ∧ s.isMember p = true ∧ s.agu.proposal = none) ∧
    (∃ (s : State) (p : HostId), s.ready p ∧ s.isMember p = false) :=
  ⟨⟨base, 0, by unfold State.ready; decide +kernel⟩,
   ⟨base, 3, by unfold State.ready; decide +kernel⟩⟩

theorem witness_DepartureActsOnTheProposal :
    (∃ (s : State) (p q : HostId) (r : Proposal), s.ready p ∧ s.isMember p = true ∧ s.agu.proposal = some r ∧ r.state
      = .waiting ∧ r.proposer = p ∧ q ≠ p ∧ s.isMember q = true) ∧
    (∃ (s : State) (p q : HostId) (r : Proposal), s.ready p ∧ s.isMember p = true ∧ s.agu.proposal = some r ∧ r.state
      = .waiting ∧ r.proposer ≠ p ∧ HostSet.minus r.accepted p = HostSet.minus r.required p ∧ q ≠ p ∧ s.isMember q =
      true) :=
  ⟨⟨vote .waiting 5, 0, 1, ballot .waiting, by unfold State.ready; decide +kernel⟩,
   ⟨vote .waiting 5, 1, 0, ballot .waiting, by unfold State.ready; decide +kernel⟩⟩

theorem witness_QueryMembersReturnsTheSets :
    (∃ (s : State) (p : HostId), s.ready p) ∧
    (∃ (s : State) (p : HostId), s.ready p ∧ s.isMember p = false ∧ (s.departure p).isSome = true) ∧
    (∃ (s : State) (p : HostId), s.resetLow = false ∧ (s.port p).resetLow = false ∧ (s.port p).state = .busy) :=
  ⟨⟨base, 3, by unfold State.ready; decide +kernel⟩,
   ⟨leaving, 2, by unfold State.ready; decide +kernel⟩,
   ⟨busyPort, 0, by decide +kernel⟩⟩

theorem witness_QueriesReturnTheState :
    (∃ (s : State) (p : HostId), s.ready p) ∧
    (∃ (s : State) (p : HostId), s.ready p) ∧
    (∃ (s : State) (p : HostId), s.ready p) ∧
    (∃ (s : State) (p : HostId) (i : RegionId) (r : Region), s.ready p ∧ s.param p 0 = BitVec.ofNat 16 i.val ∧
      s.region i = some r) ∧
    (∃ (s : State) (p : HostId) (x : TargetId), s.ready p ∧ s.param p 0 = BitVec.ofNat 16 x.val) ∧
    (∃ (s : State) (p : HostId) (w : Window) (staged : Bool), s.ready p ∧ w.id ≤ 63 ∧ s.param p 0 = BitVec.ofNat 16
      w.id ∧ s.param p 1 = BitVec.ofNat 16 (bit staged) ∧ viewed s.wtu staged w) ∧
    (∃ (s : State) (p : HostId) (w : Window) (staged : Bool), s.ready p ∧ w.id ≤ 63 ∧ s.param p 0 = BitVec.ofNat 16
      w.id ∧ s.param p 1 = BitVec.ofNat 16 (bit staged) ∧ viewed s.wtu staged w) ∧
    (∃ (s : State) (p : HostId) (w : Window) (staged : Bool), s.ready p ∧ w.id ≤ 63 ∧ s.param p 0 = BitVec.ofNat 16
      w.id ∧ s.param p 1 = BitVec.ofNat 16 (bit staged) ∧ viewed s.wtu staged w) :=
  ⟨⟨base, 3, by unfold State.ready; decide +kernel⟩,
   ⟨base, 3, by unfold State.ready; decide +kernel⟩,
   ⟨base, 3, by unfold State.ready; decide +kernel⟩,
   ⟨withParams [2] (held .input [bank .free]), 0, 2, region .input [bank .free], by unfold State.ready; decide +kernel⟩,
   ⟨withParams [7] base, 0, 7, by unfold State.ready; decide +kernel⟩,
   ⟨withParams [5, 0] tabled, 0, win .dirIn, false,
     by unfold State.ready; decide +kernel, by decide, by decide +kernel, by decide +kernel, by unfold viewed; rw [if_neg (by decide)]; decide +kernel⟩,
   ⟨withParams [0, 1] { tabled with wtu := { tabled.wtu with edits := [⟨0, 0, .add fresh⟩] } }, 0, fresh, true,
     by unfold State.ready; decide +kernel, by decide, by decide +kernel, by decide +kernel, by unfold viewed; rw [if_pos rfl]; exact ⟨_, rfl, Or.inl rfl⟩⟩,
   ⟨withParams [5, 1] { tabled with wtu := { tabled.wtu with edits := [⟨5, 0, .change { fresh with id := 5 }⟩] } }, 0, {
     fresh with id := 5 }, true,
     by unfold State.ready; decide +kernel, by decide, by decide +kernel, by decide +kernel, by unfold viewed; rw [if_pos rfl]; exact ⟨_, rfl, Or.inr ⟨_, _, rfl, rfl, rfl⟩⟩⟩⟩

theorem witness_ProposeCycleOpensAVote :
    (∃ (s : State) (p : HostId) (n : CycleParams) (expiry : Nat), s.ready p ∧ s.isMember p = true ∧ s.agu.proposal =
      none ∧ n.inRange = true ∧ 1 ≤ expiry ∧ expiry ≤ 255 ∧ s.param p 0 = BitVec.ofNat 16 n.run.code ∧ s.param p 1 =
      BitVec.ofNat 16 n.mode.code ∧ s.param p 2 = BitVec.ofNat 16 n.length ∧ s.param p 3 = BitVec.ofNat 16 n.prescale
      ∧ s.param p 4 = BitVec.ofNat 16 n.window ∧ s.param p 5 = BitVec.ofNat 16 expiry ∧ (n.run = .run → ∀ w ∈
      s.wtu.prospective, w.start + w.dur ≤ usableEnd n) ∧ (n.run = .stop → usableEnd s.ctm.params ≤ usableEnd n) ∧
      HostSet.minus s.agu.members p ≠ 0) ∧
    (∃ (s : State) (p : HostId) (n : CycleParams) (w : Window), s.ready p ∧ s.isMember p = true ∧ s.agu.proposal =
      none ∧ n.run = .run ∧ n.inRange = true ∧ s.param p 0 = 1 ∧ s.param p 1 = BitVec.ofNat 16 n.mode.code ∧ s.param p
      2 = BitVec.ofNat 16 n.length ∧ s.param p 3 = BitVec.ofNat 16 n.prescale ∧ s.param p 4 = BitVec.ofNat 16 n.window
      ∧ s.param p 5 = 1 ∧ w ∈ s.wtu.prospective ∧ usableEnd n < w.start + w.dur) ∧
    (∃ (s : State) (p : HostId) (r : Proposal), s.ready p ∧ s.isMember p = true ∧ s.agu.proposal = some r) :=
  ⟨⟨withParams [1, 0, 1000, 64, 16, 255] base, 0, freeParams, 255, by unfold State.ready; decide +kernel⟩,
   ⟨withParams [1, 0, 64, 64, 16, 1] tabled, 0, { freeParams with length := 64 }, win .dirIn,
     by unfold State.ready; decide +kernel⟩,
   ⟨vote .waiting 5, 1, ballot .waiting, by unfold State.ready; decide +kernel⟩⟩

theorem witness_ProposeTargetOpensAVote :
    (∃ (s : State) (p : HostId) (n : TargetSettings) (expiry : Nat), s.ready p ∧ s.isMember p = true ∧ s.agu.proposal
      = none ∧ n.profile.inRange = true ∧ 1 ≤ expiry ∧ expiry ≤ 255 ∧ s.param p 0 = BitVec.ofNat 16 (n.target.val + 16
      * bit n.enable + 32 * bit n.profile.handshake + 64 * bit n.profile.burst) ∧ s.param p 1 = BitVec.ofNat 16
      n.profile.setup ∧ s.param p 2 = BitVec.ofNat 16 n.profile.strobe ∧ s.param p 3 = BitVec.ofNat 16
      n.profile.recovery ∧ s.param p 4 = BitVec.ofNat 16 n.profile.timeout ∧ s.param p 5 = BitVec.ofNat 16 expiry ∧
      HostSet.minus s.agu.members p ≠ 0) ∧
    (∃ (s : State) (p : HostId) (n : TargetSettings) (expiry : Nat), s.ready p ∧ s.isMember p = true ∧ s.agu.proposal
      = none ∧ n.profile.inRange = true ∧ 1 ≤ expiry ∧ expiry ≤ 255 ∧ s.param p 0 = BitVec.ofNat 16 (n.target.val + 16
      * bit n.enable + 32 * bit n.profile.handshake + 64 * bit n.profile.burst) ∧ s.param p 1 = BitVec.ofNat 16
      n.profile.setup ∧ s.param p 2 = BitVec.ofNat 16 n.profile.strobe ∧ s.param p 3 = BitVec.ofNat 16
      n.profile.recovery ∧ s.param p 4 = BitVec.ofNat 16 n.profile.timeout ∧ s.param p 5 = BitVec.ofNat 16 expiry ∧
      HostSet.minus s.agu.members p = 0) :=
  ⟨⟨withParams [23, 4, 16, 16, 255, 255] base, 0, settings true, 255, by unfold State.ready; decide +kernel⟩,
   ⟨withParams [23, 4, 16, 16, 255, 1] { base with agu := { resetAgu with members := 1 } }, 0, settings true, 1,
     by unfold State.ready; decide +kernel⟩⟩

theorem witness_VoteDecidesOrCounts :
    (∃ (s : State) (p : HostId) (r : Proposal), s.ready p ∧ s.isMember p = true ∧ s.agu.proposal = some r ∧ r.id ≤
      65535 ∧ s.param p 0 = BitVec.ofNat 16 r.id ∧ r.state = .waiting ∧ HostSet.has r.required p = true ∧ HostSet.has
      r.accepted p = false ∧ s.param p 1 = 1) ∧
    (∃ (s : State) (p : HostId) (r : Proposal), s.ready p ∧ s.isMember p = true ∧ s.agu.proposal = some r ∧ r.id ≤
      65535 ∧ s.param p 0 = BitVec.ofNat 16 r.id ∧ r.state = .waiting ∧ HostSet.has r.required p = true ∧ HostSet.has
      r.accepted p = false ∧ s.param p 1 = 0 ∧ HostSet.plus r.accepted p = r.required) ∧
    (∃ (s : State) (p : HostId) (r : Proposal), s.ready p ∧ s.isMember p = true ∧ s.agu.proposal = some r ∧ r.id ≤
      65535 ∧ s.param p 0 = BitVec.ofNat 16 r.id ∧ r.state = .waiting ∧ HostSet.has r.required p = true ∧ HostSet.has
      r.accepted p = false ∧ s.param p 1 = 0 ∧ HostSet.plus r.accepted p ≠ r.required) :=
  ⟨⟨withParamsAt 1 [7, 1] (vote .waiting 5), 1, ballot .waiting, by unfold State.ready; decide +kernel⟩,
   ⟨withParamsAt 1 [7, 0] (vote .waiting 5), 1, ballot .waiting, by unfold State.ready; decide +kernel⟩,
   ⟨withParamsAt 1 [7, 0] { base with agu := { base.agu with proposal := some { ballot .waiting with required := 6 } } },
     1, { ballot .waiting with required := 6 }, by unfold State.ready; decide +kernel⟩⟩

theorem witness_WithdrawProposalChecksAndEffect :
    (∃ (s : State) (p : HostId), s.ready p ∧ s.isMember p = false) ∧
    (∃ (s : State) (p : HostId), s.ready p ∧ s.isMember p = true ∧ (∀ r ∈ s.agu.proposal, r.state = .agreed ∨ r.id ≠
      (s.param p 0).toNat)) ∧
    (∃ (s : State) (p : HostId) (r : Proposal), s.ready p ∧ s.isMember p = true ∧ s.agu.proposal = some r ∧ r.state =
      .waiting ∧ r.id = (s.param p 0).toNat ∧ r.proposer ≠ p) ∧
    (∃ (s : State) (p : HostId) (r : Proposal), s.ready p ∧ s.isMember p = true ∧ s.agu.proposal = some r ∧ r.state =
      .waiting ∧ r.id = (s.param p 0).toNat ∧ r.proposer = p) :=
  ⟨⟨base, 3, by unfold State.ready; decide +kernel⟩,
   ⟨withParams [7] (vote .agreed 5), 0, by unfold State.ready; decide +kernel⟩,
   ⟨withParamsAt 1 [7] (vote .waiting 5), 1, ballot .waiting, by unfold State.ready; decide +kernel⟩,
   ⟨withParams [7] (vote .waiting 5), 0, ballot .waiting, by unfold State.ready; decide +kernel⟩⟩

theorem witness_EditsAreStagedWhileCycling :
    (∃ (s : State) (p : HostId) (w : Window), s.ready p ∧ s.isMember p = true ∧ s.ctm.timebase = .cycling ∧ spells s p
      w ∧ placed s p w ∧ newWindow s p w ∧ (∀ v ∈ s.wtu.prospective, apart v w) ∧ s.wtu.segmentsUsed + w.segs.length ≤
      192 ∧ s.wtu.edits.length < 32) ∧
    (∃ (s : State) (p : HostId) (w old : Window), s.ready p ∧ s.isMember p = true ∧ s.ctm.timebase = .cycling ∧ spells
      s p w ∧ placed s p w ∧ s.param p 6 = BitVec.ofNat 16 w.id ∧ w.id ≤ 63 ∧ w.owner = p ∧ w.cond = .active ∧
      w.lastStatus = .never ∧ w.lastCycle = 0 ∧ findWindow w.id s.wtu.table = some old ∧ old.owner = p ∧ old.cond =
      .active ∧ (∀ e ∈ s.wtu.edits, e.id ≠ w.id) ∧ (∀ v ∈ s.wtu.prospective, v.id ≠ w.id → apart v w) ∧
      s.wtu.segmentsUsed + w.segs.length ≤ 192 ∧ s.wtu.edits.length < 32) ∧
    (∃ (s : State) (p : HostId) (old : Window), s.ready p ∧ s.isMember p = true ∧ s.ctm.timebase = .cycling ∧ old.id ≤
      63 ∧ s.param p 0 = BitVec.ofNat 16 old.id ∧ findWindow old.id s.wtu.table = some old ∧ old.owner = p ∧ old.cond
      = .active ∧ (∀ e ∈ s.wtu.edits, e.id ≠ old.id) ∧ s.wtu.edits.length < 32) ∧
    (∃ (s : State) (p : HostId) (w : Window) (pre post : List Edit), s.ready p ∧ s.isMember p = true ∧ s.ctm.timebase
      = .cycling ∧ w.id ≤ 63 ∧ s.param p 0 = BitVec.ofNat 16 w.id ∧ findWindow w.id s.wtu.table = none ∧ s.wtu.edits =
      pre ++ ⟨w.id, p, .add w⟩ :: post ∧ (∀ e ∈ pre ++ post, e.id ≠ w.id) ∧ noRetiring s) ∧
    (∃ (s : State) (p : HostId) (old : Window) (pre post : List Edit) (e : Edit), s.ready p ∧ s.isMember p = true ∧
      s.ctm.timebase = .cycling ∧ old.id ≤ 63 ∧ s.param p 0 = BitVec.ofNat 16 old.id ∧ findWindow old.id s.wtu.table =
      some old ∧ old.owner = p ∧ old.cond = .active ∧ s.wtu.edits = pre ++ e :: post ∧ e.id = old.id ∧ e.isAdd = false
      ∧ (∀ x ∈ pre ++ post, x.id ≠ old.id) ∧ old.start + old.dur ≤ usableEnd s.ctm.params ∧ (∀ l ∈ s.wtu.limit,
      old.start + old.dur ≤ l) ∧ (∀ v ∈ ({ s.wtu with edits := pre ++ post } : Wtu).prospective, v.id ≠ old.id → apart
      v old) ∧ noRetiring s) ∧
    (∃ (s : State) (p : HostId) (old : Window) (pre post : List Edit) (e : Edit), s.ready p ∧ s.isMember p = true ∧
      s.ctm.timebase = .cycling ∧ old.id ≤ 63 ∧ s.param p 0 = BitVec.ofNat 16 old.id ∧ findWindow old.id s.wtu.table =
      some old ∧ old.owner = p ∧ old.cond = .active ∧ s.wtu.edits = pre ++ e :: post ∧ e.id = old.id ∧ e.isAdd = false
      ∧ (∀ x ∈ pre ++ post, x.id ≠ old.id) ∧ (∃ l ∈ s.wtu.limit, l < old.start + old.dur)) ∧
    (∃ (s : State) (p : HostId) (old : Window) (pre post : List Edit) (e : Edit), s.ready p ∧ s.isMember p = true ∧
      s.ctm.timebase = .cycling ∧ old.id ≤ 63 ∧ s.param p 0 = BitVec.ofNat 16 old.id ∧ findWindow old.id s.wtu.table =
      some old ∧ old.owner = p ∧ old.cond = .active ∧ s.wtu.edits = pre ++ e :: post ∧ e.id = old.id ∧ e.isAdd = false
      ∧ (∀ x ∈ pre ++ post, x.id ≠ old.id) ∧ old.start + old.dur ≤ usableEnd s.ctm.params ∧ (∀ l ∈ s.wtu.limit,
      old.start + old.dur ≤ l) ∧ (∃ v ∈ ({ s.wtu with edits := pre ++ post } : Wtu).prospective, v.id ≠ old.id ∧
      ¬apart v old)) :=
  ⟨⟨staging { tabled with ctm := (at_ 5 .free).ctm }, 0, fresh,
     by unfold State.ready spells placed newWindow apart; decide +kernel⟩,
   ⟨changing { tabled with ctm := (at_ 5 .free).ctm }, 0, { fresh with id := 5 }, win .dirIn,
     by unfold State.ready spells placed apart; decide +kernel⟩,
   ⟨withParams [5] { tabled with ctm := (at_ 5 .free).ctm }, 0, win .dirIn, by unfold State.ready; decide +kernel⟩,
   ⟨withParams [0] { tabled with ctm := (at_ 5 .free).ctm, wtu := { tabled.wtu with edits := [⟨0, 0, .add fresh⟩] } }, 0,
     fresh, [], [], by unfold State.ready noRetiring; decide +kernel⟩,
   ⟨edited [⟨5, 0, .change changed⟩] none, 0, win .dirIn, [], [], ⟨5, 0, .change changed⟩,
     by unfold State.ready noRetiring apart; decide +kernel⟩,
   ⟨edited [⟨5, 0, .remove⟩] (some 899), 0, win .dirIn, [], [], ⟨5, 0, .remove⟩, by unfold State.ready; decide +kernel⟩,
   ⟨edited [⟨5, 0, .remove⟩, ⟨0, 1, .add inside⟩] none, 0, win .dirIn, [], [⟨0, 1, .add inside⟩], ⟨5, 0, .remove⟩,
     by unfold State.ready apart; decide +kernel⟩⟩

theorem witness_EditsApplyAtOnceWhileNotCycling :
    (∃ (s : State) (p : HostId) (w : Window) (pre post : List Window), s.ready p ∧ s.isMember p = true ∧
      s.ctm.timebase ≠ .cycling ∧ s.wtu.edits = [] ∧ spells s p w ∧ placed s p w ∧ newWindow s p w ∧ s.wtu.table = pre
      ++ post ∧ (∀ v ∈ pre, v.start < w.start) ∧ (∀ v ∈ post, w.start ≤ v.start) ∧ (∀ v ∈ pre ++ post, apart v w) ∧
      s.wtu.segmentsUsed + w.segs.length ≤ 192) ∧
    (∃ (s : State) (p : HostId) (w old : Window) (pre post : List Window), s.ready p ∧ s.isMember p = true ∧
      s.ctm.timebase ≠ .cycling ∧ s.wtu.edits = [] ∧ spells s p w ∧ placed s p w ∧ s.param p 6 = BitVec.ofNat 16 w.id
      ∧ w.id ≤ 63 ∧ findWindow w.id s.wtu.table = some old ∧ old.owner = p ∧ old.cond = .active ∧ w.owner = p ∧ w.cond
      = .active ∧ w.lastStatus = old.lastStatus ∧ w.lastCycle = old.lastCycle ∧ s.wtu.table.filter (fun v => v.id !=
      w.id) = pre ++ post ∧ (∀ v ∈ pre, v.start < w.start) ∧ (∀ v ∈ post, w.start ≤ v.start) ∧ (∀ v ∈ pre ++ post,
      apart v w) ∧ s.wtu.segmentsUsed + w.segs.length ≤ 192 + old.segs.length ∧ noRetiring s) ∧
    (∃ (s : State) (p : HostId) (old : Window), s.ready p ∧ s.isMember p = true ∧ s.ctm.timebase ≠ .cycling ∧
      s.wtu.edits = [] ∧ old.id ≤ 63 ∧ s.param p 0 = BitVec.ofNat 16 old.id ∧ findWindow old.id s.wtu.table = some old
      ∧ old.owner = p ∧ old.cond = .active ∧ noRetiring s) :=
  ⟨⟨staging tabled, 0, fresh, [], [win .dirIn], by unfold State.ready spells placed newWindow apart; decide +kernel⟩,
   ⟨changing tabled, 0, { fresh with id := 5 }, win .dirIn, [], [],
     by unfold State.ready noRetiring spells placed apart; decide +kernel⟩,
   ⟨withParams [5] tabled, 0, win .dirIn, by unfold State.ready noRetiring; decide +kernel⟩⟩

theorem witness_DefineRegionAllocatesFirstFit :
    (∃ (s : State) (p : HostId) (kind : RegionKind) (size banks b : Nat) (readers : HostSet) (i : RegionId), s.ready p
      ∧ s.isMember p = true ∧ asksRegion s p kind size banks readers ∧ lowestSlot s i ∧ b + size * banks ≤ 768 ∧
      runIsFree s b (size * banks) ∧ (∀ c, c < b → ¬ runIsFree s c (size * banks))) ∧
    (∃ (s : State) (p : HostId) (kind : RegionKind) (size banks : Nat) (readers : HostSet) (i : RegionId), s.ready p ∧
      s.isMember p = true ∧ asksRegion s p kind size banks readers ∧ lowestSlot s i ∧ (∀ b : Fin 769, b.val + size *
      banks ≤ 768 → ¬ runIsFree s b.val (size * banks))) :=
  ⟨⟨withParams [0, 64, 3, 0b1000] (held .input [bank .free]), 0, .input, 64, 3, 1, 0b1000, 0,
     by unfold State.ready asksRegion lowestSlot runIsFree; decide +kernel⟩,
   ⟨withParams [1, 64, 3, 0] fullPool, 0, .output, 64, 3, 0, 4,
     by unfold State.ready asksRegion lowestSlot runIsFree; decide +kernel⟩⟩

theorem witness_DeleteRegionFreesOrRetires :
    (∃ (s : State) (p : HostId) (i : RegionId) (r : Region), s.ready p ∧ s.isMember p = true ∧ s.param p 0 =
      BitVec.ofNat 16 i.val ∧ s.region i = some r ∧ r.owner = p ∧ r.retire = none ∧ s.wtu.names i = true) ∧
    (∃ (s : State) (p : HostId) (i : RegionId) (r : Region), s.ready p ∧ s.isMember p = true ∧ s.param p 0 =
      BitVec.ofNat 16 i.val ∧ s.region i = some r ∧ r.owner = p ∧ r.retire = none ∧ s.wtu.names i = false ∧ (∀ k ∈
      r.banks, k.pins = 0 ∧ k.enginePin = false ∧ k.role ≠ .filling .engine ∧ k.role ≠ .filling .writeHandle)) ∧
    (∃ (s : State) (p : HostId) (i : RegionId) (r : Region), s.ready p ∧ s.isMember p = true ∧ s.param p 0 =
      BitVec.ofNat 16 i.val ∧ s.region i = some r ∧ r.owner = p ∧ r.retire = none ∧ s.wtu.names i = false ∧ (∃ k ∈
      r.banks, k.pins ≠ 0 ∨ k.enginePin = true ∨ k.role = .filling .engine ∨ k.role = .filling .writeHandle)) :=
  ⟨⟨withParams [2] tabled, 0, 2, region .input [bank .free, bank .published], by unfold State.ready; decide +kernel⟩,
   ⟨withParams [2] (held .input [bank .free]), 0, 2, region .input [bank .free], by unfold State.ready; decide +kernel⟩,
   ⟨withParams [2] (held .input [filling]), 0, 2, region .input [filling], by unfold State.ready; decide +kernel⟩⟩

theorem witness_OpenReadPinsAndCloseReadReleases :
    (∃ (s : State) (p : HostId) (i : RegionId) (a : Fin 4) (r : Region) (b : Nat) (k : Bank), s.ready p ∧ s.isMember p
      = true ∧ s.param p 0 = BitVec.ofNat 16 i.val ∧ s.param p 1 = BitVec.ofNat 16 a.val ∧ s.region i = some r ∧
      r.kind = .input ∧ HostSet.has r.readers p = true ∧ r.retire = none ∧ s.readHandle p a = none ∧ (∀ c, ∀ x ∈
      s.readHandle p c, x.region ≠ i) ∧ r.banks[b]? = some k ∧ k.role = .published ∧ (∀ x ∈ r.banks.take b, x.role ≠
      .published)) ∧
    (∃ (s : State) (p : HostId) (i : RegionId) (a : Fin 4) (r : Region), s.ready p ∧ s.isMember p = true ∧ s.param p 0
      = BitVec.ofNat 16 i.val ∧ s.param p 1 = BitVec.ofNat 16 a.val ∧ s.region i = some r ∧ r.kind = .input ∧
      HostSet.has r.readers p = true ∧ r.retire = none ∧ s.readHandle p a = none ∧ (∀ c, ∀ x ∈ s.readHandle p c,
      x.region ≠ i) ∧ (∀ k ∈ r.banks, k.role ≠ .published)) ∧
    (∃ (s : State) (p : HostId) (a : Fin 4) (x : Handle) (r : Region) (k : Bank), s.ready p ∧ s.isMember p = true ∧
      s.param p 0 = BitVec.ofNat 16 a.val ∧ s.readHandle p a = some x ∧ s.region x.region = some r ∧ r.banks[x.bank]?
      = some k) ∧
    (∃ (s : State) (p : HostId) (a : Fin 4) (x : Handle) (r : Region) (k : Bank), s.ready p ∧ s.isMember p = true ∧
      s.param p 0 = BitVec.ofNat 16 a.val ∧ s.readHandle p a = some x ∧ s.region x.region = some r ∧ r.banks[x.bank]?
      = some k) :=
  ⟨⟨withParams [2, 3] (held .input [bank .published]), 0, 2, 3, region .input [bank .published], 0, bank .published,
     by unfold State.ready; decide +kernel⟩,
   ⟨withParams [2, 0] (held .input [bank .free]), 0, 2, 0, region .input [bank .free],
     by unfold State.ready; decide +kernel⟩,
   ⟨withParams [3] reading, 0, 3, ⟨2, 0, 5⟩, region .input [{ bank .held with pins := 1 }], { bank .held with pins := 1
     }, by unfold State.ready; decide +kernel⟩,
   ⟨withParams [3] (retiring reading), 0, 3, ⟨2, 0, 5⟩, retired (region .input [{ bank .held with pins := 1 }]), { bank
     .held with pins := 1 }, by unfold State.ready; decide +kernel⟩⟩

theorem witness_WriteHandleOpensPublishesOrAbandons :
    (∃ (s : State) (p : HostId) (i : RegionId) (r : Region) (b : Nat) (k : Bank), s.ready p ∧ s.isMember p = true ∧
      s.param p 0 = BitVec.ofNat 16 i.val ∧ s.region i = some r ∧ r.kind = .output ∧ r.owner = p ∧ r.retire = none ∧
      s.writeHandle p = none ∧ r.banks[b]? = some k ∧ k.role = .free ∧ (∀ x ∈ r.banks.take b, x.role ≠ .free)) ∧
    (∃ (s : State) (p : HostId) (x : Handle) (r : Region) (k : Bank), s.ready p ∧ s.isMember p = true ∧ s.writeHandle
      p = some x ∧ s.region x.region = some r ∧ r.banks[x.bank]? = some k) ∧
    (∃ (s : State) (p : HostId) (x : Handle) (r : Region) (k : Bank), s.ready p ∧ s.isMember p = true ∧ s.writeHandle
      p = some x ∧ s.region x.region = some r ∧ r.banks[x.bank]? = some k) ∧
    (∃ (s : State) (p : HostId) (x : Handle) (r : Region) (k : Bank), s.ready p ∧ s.isMember p = true ∧ s.writeHandle
      p = some x ∧ s.region x.region = some r ∧ r.banks[x.bank]? = some k) ∧
    (∃ (s : State) (p : HostId) (x : Handle) (r : Region) (k : Bank), s.ready p ∧ s.isMember p = true ∧ s.writeHandle
      p = some x ∧ s.region x.region = some r ∧ r.banks[x.bank]? = some k) :=
  ⟨⟨withParams [2] (held .output [bank .free]), 0, 2, region .output [bank .free], 0, bank .free,
     by unfold State.ready; decide +kernel⟩,
   ⟨writing, 0, ⟨2, 0, 5⟩, region .output [written], written, by unfold State.ready; decide +kernel⟩,
   ⟨retiring writing, 0, ⟨2, 0, 5⟩, retired (region .output [written]), written, by unfold State.ready; decide +kernel⟩,
   ⟨writing, 0, ⟨2, 0, 5⟩, region .output [written], written, by unfold State.ready; decide +kernel⟩,
   ⟨retiring writing, 0, ⟨2, 0, 5⟩, retired (region .output [written]), written, by unfold State.ready; decide +kernel⟩⟩

set_option synthInstance.maxSize 1000 in
theorem witness_SubmitQueuesTheRequest :
    (∃ (s : State) (p : HostId) (r : Request), s.ready p ∧ s.isMember p = true ∧ asksRequest s p r ∧ tagUnused s p
      r.tag ∧ (s.queue p).length < 8 ∧ (s.ctm.timebase = .cycling → r.estimate ≤ s.longestOpen) ∧ s.txe.state ≠ .idle) ∧
    (∃ (s : State) (p : HostId) (r : Request), s.ready p ∧ s.isMember p = true ∧ asksRequest s p r ∧ tagUnused s p
      r.tag ∧ (s.queue p).length < 8 ∧ (s.ctm.timebase = .cycling → r.estimate ≤ s.longestOpen) ∧ s.txe.state = .idle
      ∧ probeWaits s ∧ (∀ k, passedOver (appended s p r) k)) ∧
    (∃ (s : State) (p : HostId) (r : Request) (x : TargetId) (xs : List TargetId), s.ready p ∧ s.isMember p = true ∧
      asksRequest s p r ∧ tagUnused s p r.tag ∧ (s.queue p).length < 8 ∧ (s.ctm.timebase = .cycling → r.estimate ≤
      s.longestOpen) ∧ s.txe.state = .idle ∧ s.tbi.hold = false ∧ noStartDue s ∧ s.ota.probes = x :: xs ∧ s.target x =
      .probing ∧ fitsOpen s (probeTicks s x)) ∧
    (∃ (s : State) (p : HostId) (r : Request) (h : HostId) (y : Request) (rest : List Request), s.ready p ∧ s.isMember
      p = true ∧ asksRequest s p r ∧ tagUnused s p r.tag ∧ (s.queue p).length < 8 ∧ (s.ctm.timebase = .cycling →
      r.estimate ≤ s.longestOpen) ∧ s.txe.state = .idle ∧ probeWaits s ∧ (appended s p r).queue h = y :: rest ∧ (∀ k,
      turn s.ota.pointer k < turn s.ota.pointer h → passedOver (appended s p r) k) ∧ s.target y.target = .online ∧
      fitsOpen s y.estimate ∧ s.tbi.hold = false ∧ noStartDue s) ∧
    (∃ (s : State) (p : HostId) (r : Request) (h : HostId) (y : Request) (rest : List Request), s.ready p ∧ s.isMember
      p = true ∧ asksRequest s p r ∧ tagUnused s p r.tag ∧ (s.queue p).length < 8 ∧ (s.ctm.timebase = .cycling →
      r.estimate ≤ s.longestOpen) ∧ s.txe.state = .idle ∧ probeWaits s ∧ (appended s p r).queue h = y :: rest ∧ (∀ k,
      turn s.ota.pointer k < turn s.ota.pointer h → passedOver (appended s p r) k) ∧ s.target y.target = .online ∧
      fitsOpen s y.estimate ∧ s.tbi.hold = false ∧ noStartDue s) ∧
    (∃ (s : State) (p : HostId) (r : Request) (h : HostId) (y : Request) (rest : List Request), s.ready p ∧ s.isMember
      p = true ∧ asksRequest s p r ∧ tagUnused s p r.tag ∧ (s.queue p).length < 8 ∧ (s.ctm.timebase = .cycling →
      r.estimate ≤ s.longestOpen) ∧ s.txe.state = .idle ∧ probeWaits s ∧ (appended s p r).queue h = y :: rest ∧ (∀ k,
      turn s.ota.pointer k < turn s.ota.pointer h → passedOver (appended s p r) k) ∧ s.target y.target = .online ∧
      fitsOpen s y.estimate ∧ s.tbi.hold = false ∧ noStartDue s) ∧
    (∃ (s : State) (p : HostId) (r : Request) (h : HostId) (y : Request) (rest : List Request), s.ready p ∧ s.isMember
      p = true ∧ asksRequest s p r ∧ tagUnused s p r.tag ∧ (s.queue p).length < 8 ∧ (s.ctm.timebase = .cycling →
      r.estimate ≤ s.longestOpen) ∧ s.txe.state = .idle ∧ probeWaits s ∧ (appended s p r).queue h = y :: rest ∧ (∀ k,
      turn s.ota.pointer k < turn s.ota.pointer h → passedOver (appended s p r) k) ∧ s.target y.target ≠ .online ∧ (∀
      k, passedOver { s with ota := { s.ota with queues := put (appended s p r).ota.queues h rest, pointer := h } }
      k)) ∧
    (∃ (s : State) (p : HostId) (r : Request) (pre post : List Window) (w : Window), s.ready p ∧ s.isMember p = true ∧
      asksRequest s p r ∧ tagUnused s p r.tag ∧ dueIs s pre post w ∧ 0 < w.dur ∧ w.segs ≠ [] ∧ w.notify = false ∧
      (s.region w.region).isSome = true ∧ r.estimate ≤ s.longestOpen ∧ 0 < r.estimate ∧ s.ctm.counter + r.estimate ≤
      nextRunningStart s ∧ s.txe.state = .idle ∧ s.ota.running = none ∧ s.ota.probes = [] ∧ (∀ h, s.queue h = []) ∧
      s.target r.target = .online) :=
  ⟨⟨withParams [255, 0x702, 15, 256, 0, 0, 255] { base with txe := { resetTxe with state := .window } }, 0, blockAsk,
     by unfold State.ready asksRequest tagUnused; decide +kernel⟩,
   ⟨contended 1 [blockAsk] [{ blockAsk with tag := 3 }], 1, ask,
     by unfold State.ready asksRequest tagUnused probeWaits passedOver fitsOpen; decide +kernel⟩,
   ⟨probed, 1, ask, 7, [], by unfold State.ready asksRequest tagUnused fitsOpen noStartDue; decide +kernel⟩,
   ⟨contended 3 [blockAsk] [], 1, ask, 1, ask, [],
     by unfold State.ready asksRequest tagUnused probeWaits passedOver fitsOpen noStartDue; decide +kernel⟩,
   ⟨contended 1 [longAsk] [], 1, ask, 1, ask, [],
     by unfold State.ready asksRequest tagUnused probeWaits passedOver fitsOpen noStartDue; decide +kernel⟩,
   ⟨contended 0 [{ ask with tag := 4 }] [{ blockAsk with tag := 3 }], 1, ask, 0, { ask with tag := 4 }, [],
     by unfold State.ready asksRequest tagUnused probeWaits passedOver fitsOpen noStartDue; decide +kernel⟩,
   ⟨contended 3 [lostAsk] [{ blockAsk with tag := 3 }], 1, ask, 0, lostAsk, [],
     by unfold State.ready asksRequest tagUnused probeWaits passedOver fitsOpen; decide +kernel⟩,
   ⟨withParams [9, 0x700, 3, 1, 0, 0, 2] (quietly (due .dirIn .input .free)), 0, ask, [], [], { win .dirIn with notify :=
     false }, by unfold State.ready dueIs asksRequest tagUnused; decide +kernel⟩⟩

theorem witness_CancelTakesTheRequestBack :
    (∃ (s : State) (p : HostId) (pre post : List Request) (r : Request), s.ready p ∧ s.isMember p = true ∧ r.tag ≤ 255
      ∧ s.param p 0 = BitVec.ofNat 16 r.tag ∧ s.queue p = pre ++ r :: post ∧ (∀ x ∈ pre, x.tag ≠ r.tag) ∧ s.txe.state
      ≠ .idle) ∧
    (∃ (s : State) (p : HostId) (y : RunningReq), s.ready p ∧ s.isMember p = true ∧ y.req.tag ≤ 255 ∧ s.param p 0 =
      BitVec.ofNat 16 y.req.tag ∧ (∀ x ∈ s.queue p, x.tag ≠ y.req.tag) ∧ s.ota.running = some y ∧ y.owner = p ∧
      y.former = false) :=
  ⟨⟨withParams [9] queued, 0, [], [], ask, by unfold State.ready; decide +kernel⟩,
   ⟨withParams [9] betweenAccesses, 0, ⟨0, ask, false, 0, 0⟩, by unfold State.ready; decide +kernel⟩⟩

theorem witness_TargetRestoreChecksAndEffect :
    (∃ (s : State) (p : HostId), s.ready p ∧ s.isMember p = false) ∧
    (∃ (s : State) (p : HostId), s.ready p ∧ s.isMember p = true ∧ 8 ≤ (s.param p 0).toNat) ∧
    (∃ (s : State) (p : HostId) (x : TargetId), s.ready p ∧ s.isMember p = true ∧ s.param p 0 = BitVec.ofNat 16 x.val
      ∧ s.target x ≠ .faulted) ∧
    (∃ (s : State) (p : HostId) (x : TargetId), s.ready p ∧ s.isMember p = true ∧ s.param p 0 = BitVec.ofNat 16 x.val
      ∧ s.target x = .faulted ∧ s.txe.state ≠ .idle ∧ x ∉ s.ota.probes ∧ s.ota.probing ≠ some x) ∧
    (∃ (s : State) (p : HostId) (x : TargetId), s.ready p ∧ s.isMember p = true ∧ s.param p 0 = BitVec.ofNat 16 x.val
      ∧ s.target x = .faulted ∧ s.txe.state = .idle ∧ s.ota.probes = [] ∧ s.ota.probing = none ∧ s.ctm.timebase ≠
      .cycling ∧ s.tbi.hold = false) :=
  ⟨⟨base, 3, by unfold State.ready; decide +kernel⟩,
   ⟨withParams [8] base, 0, by unfold State.ready; decide +kernel⟩,
   ⟨withParams [7] base, 0, 7, by unfold State.ready; decide +kernel⟩,
   ⟨withParams [7] { faulted with txe := { resetTxe with state := .window } }, 0, 7,
     by unfold State.ready; decide +kernel⟩,
   ⟨withParams [7] faulted, 0, 7, by unfold State.ready; decide +kernel⟩⟩

theorem witness_RefusedCommandsHaveNoEffect :
    (∃ (s t : State) (p : HostId) (k : Cmd), s.ready p ∧
      (k ∈ [.stageAdd, .stageChange, .stageRemove, .withdrawEdit] → s.ctm.timebase = .cycling ∨ s.wtu.edits = []) ∧
      exec (k.instr p) s = .next t ∧ (t.port p).state = .done ∧ (t.port p).lastStatus ≠ 0) ∧
    (∃ (s t : State) (p : HostId) (k : Cmd), s.ready p ∧
      (k ∈ [.stageAdd, .stageChange, .stageRemove, .withdrawEdit] → s.ctm.timebase = .cycling ∨ s.wtu.edits = []) ∧
      exec (k.instr p) s = .next t ∧ (t.port p).state = .done ∧ (t.port p).lastStatus ≠ 0) :=
  ⟨⟨base, hostCommand 0 .join base, 0, .join, by unfold State.ready; decide +kernel, by decide +kernel, rfl,
     by decide +kernel⟩,
   ⟨base, hostCommand 0 .stageAdd base, 0, .stageAdd, by unfold State.ready; decide +kernel, by decide +kernel, rfl,
     by decide +kernel⟩⟩

theorem witness_BadAndBusyCommandWrites :
    (∃ (s : State) (p : HostId) (v : Word), s.ready p ∧ (∀ k ∈ allCmds, k.code ≠ v.extractLsb' 0 8)) ∧
    (∃ (s : State) (p : HostId) (_ : Word), s.resetLow = false ∧ (s.port p).resetLow = false ∧ ((s.port p).state =
      .busy ∨ (s.port p).discard = true)) ∧
    (∃ (s : State) (p : HostId) (v : Word), (s.resetLow = true ∨ (s.port p).resetLow = true) ∧ (∀ k ∈ allCmds, k.code
      ≠ v.extractLsb' 0 8)) :=
  ⟨⟨base, 0, 0x0009, by unfold State.ready; decide +kernel⟩,
   ⟨busyPort, 0, 0x0003, by decide +kernel⟩,
   ⟨resetState, 0, 0x0009, by decide +kernel⟩⟩

theorem witness_EventPopTakesTheOldestRecord :
    (∃ (s : State) (p : HostId) (_ : Word) (e : Event) (rest : List Event), s.resetLow = false ∧ (s.port p).resetLow =
      false ∧ (s.port p).events = e :: rest) ∧
    (∃ (s : State) (p : HostId) (_ : Word), s.resetLow = false ∧ (s.port p).resetLow = false ∧ (s.port p).events = []) ∧
    (∃ (s : State) (p : HostId) (_ : Word), (s.resetLow = true ∨ (s.port p).resetLow = true)) :=
  ⟨⟨eventful, 0, 0, .syncEarly 1 2, [], by decide +kernel⟩,
   ⟨base, 0, 0, by decide +kernel⟩,
   ⟨resetState, 0, 0, by decide +kernel⟩⟩

theorem witness_RegisterPageWrites :
    (∃ (s : State) (p : HostId) (_ : Word), s.resetLow = false ∧ (s.port p).resetLow = false) ∧
    (∃ (s : State) (p : HostId) (_ : Word), s.resetLow = false ∧ (s.port p).resetLow = false) ∧
    (∃ (s : State) (p : HostId) (_ : Word), s.resetLow = false ∧ (s.port p).resetLow = false ∧ (∀ a ∈ ([0x00, 0x02,
      0x0C, 0x13, 0x15, 0x1B, 0x1E, 0x1F, 0x38, 0xFF, 0x200, 0x7FF, 0x3000, 0x7FFF] : List (BitVec 15)),
      flaggedAddress a) ∧ (∀ a ∈ ([0x03, 0x0B, 0x14, 0x1C, 0x1D, 0x20, 0x37, 0x100, 0x1FF, 0x800, 0x2FFF] : List
      (BitVec 15)), ¬flaggedAddress a)) ∧
    (∃ (s : State) (p : HostId) (_ : BitVec 15) (_ : Word), (s.resetLow = true ∨ (s.port p).resetLow = true)) :=
  ⟨⟨base, 0, 3, by decide +kernel⟩,
   ⟨base, 0, 1, by decide +kernel⟩,
   ⟨base, 0, 1, by decide +kernel, by decide +kernel, by simp [flaggedAddress], by simp [flaggedAddress]⟩,
   ⟨resetState, 0, 3, 1, by decide +kernel⟩⟩

theorem witness_ApertureAccesses :
    (∃ (s : State) (p : HostId) (ap : Aperture) (w : Fin 2048) (b : Binding) (r : Region), s.resetLow = false ∧
      (s.port p).resetLow = false ∧ (s.port p).binding ap = some b ∧ w.val < b.words ∧ s.region b.region = some r) ∧
    (∃ (s : State) (p : HostId) (w : Fin 2048) (_ : Word) (b : Binding) (r : Region), s.memoryOk ∧ s.resetLow = false
      ∧ (s.port p).resetLow = false ∧ (s.port p).writeBind = some b ∧ w.val < b.words ∧ s.region b.region = some r ∧
      wordBehind r b w.val < 24576) ∧
    (∃ (s : State) (p : HostId) (ap : Aperture) (w : Fin 2048) (_ : Word), s.resetLow = false ∧ (s.port p).resetLow =
      false ∧ (∀ b ∈ (s.port p).binding ap, b.words ≤ w.val)) ∧
    (∃ (s : State) (p : HostId) (ap : Aperture) (w : Fin 2048) (_ : Word), s.resetLow = false ∧ (s.port p).resetLow =
      false ∧ (∀ b ∈ (s.port p).binding ap, b.words ≤ w.val)) ∧
    (∃ (s : State) (p : HostId) (ap : Aperture) (_ : Fin 2048) (_ : Word), s.resetLow = false ∧ (s.port p).resetLow =
      false ∧ ap ≠ .w) ∧
    (∃ (s : State) (p : HostId) (_ : Aperture) (_ : Fin 2048) (_ : Word), (s.resetLow = true ∨ (s.port p).resetLow =
      true)) :=
  ⟨⟨bound, 0, .w, 31, ⟨2, 0, 32⟩, region .output [written], by decide +kernel⟩,
   ⟨bound, 0, 31, 0xBEEF, ⟨2, 0, 32⟩, region .output [written], by unfold State.memoryOk wordBehind; decide +kernel⟩,
   ⟨bound, 0, .w, 32, 1, by decide +kernel⟩,
   ⟨bound, 0, .w, 2047, 1, by decide +kernel⟩,
   ⟨bound, 0, .a0, 31, 1, by decide +kernel⟩,
   ⟨resetState, 0, .w, 0, 1, by decide +kernel⟩⟩

theorem witness_MailboxIsReadAndWritten :
    ∃ (s : State) (p : HostId) (_ : Fin 256) (_ : Word), s.memoryOk ∧ s.resetLow = false ∧ (s.port p).resetLow = false :=
  ⟨base, 0, 255, 1, by unfold State.memoryOk; decide +kernel⟩

set_option synthInstance.maxSize 1000 in
/-- Every law holds somewhere other than at reset: HOLDOVER, a window that runs with a fill claim and is to be removed, a reader of
the PUBLISHED bank, a proposal. -/
theorem witness_EveryStepKeepsTheLaws : ∃ s t : State, s.safe ∧ step s = .next t :=
  ⟨lawful, syncPulse { lawful with pending := [] }, by
    refine ⟨?_, ?_, ?_, ?_, ?_, ?_, ?_, ?_⟩
    · unfold State.memoryOk; decide +kernel
    · unfold State.queuesOk Port.queueOk; decide +kernel
    · exact ⟨by decide +kernel, by decide +kernel, by decide +kernel, by decide +kernel, by decide +kernel, rfl,
        And.intro rfl (And.intro rfl (And.intro (by decide) (by decide)))⟩
    · unfold State.agreementOk; decide +kernel
    · unfold State.regionsOk Region.ok; decide +kernel
    · unfold State.limitsOk; decide +kernel
    · unfold State.windowsOk tableOk
      refine ⟨by decide +kernel, by decide +kernel, by decide +kernel, List.forall_mem_singleton.mpr ?_, by decide +kernel⟩
      show ∃ v ∈ lawful.wtu.table, v.id = 5 ∧ v.owner = 0 ∧ v.cond = .active
      decide +kernel
    · unfold State.banksOk
      refine ⟨?_, ?_, ?_, ?_, ?_⟩
      · unfold bankOk; decide +kernel
      · unfold State.handlesOk; decide +kernel
      · unfold State.bindingsOk State.bindingOf; decide +kernel
      · unfold State.claimsAgree; decide +kernel
      · unfold State.namesOk State.regionFits; decide +kernel, rfl⟩

end Sys2Proof.Tests
end

