-- ==== Sys2Proof/Proofs/QueryMembers.lean ====
section
/-!
PROOFS. QUERY_MEMBERS (R64): what its result word reads bit by bit, and what the command leaves in the state.
-/
namespace Sys2Proof.Machine

/-! ## A word of packed fields, bit by bit -/

/-- One more field above a number that ends below it: what `pack` adds at each step. -/
theorem testBit_add_field {n lo : Nat} (h : n < 2 ^ lo) (len v i : Nat) :
    (n + v % 2 ^ len * 2 ^ lo).testBit i =
      if i < lo then n.testBit i else decide (i - lo < len) && v.testBit (i - lo) := by
  rw [Nat.add_comm, Nat.mul_comm, Nat.testBit_two_pow_mul_add _ h, Nat.testBit_mod_two_pow]

/-- A field added above a number keeps the sum below the field's end. -/
theorem add_field_lt {n lo : Nat} (h : n < 2 ^ lo) (len v : Nat) : n + v % 2 ^ len * 2 ^ lo < 2 ^ (lo + len) := by
  have hv : v % 2 ^ len + 1 ≤ 2 ^ len := Nat.mod_lt _ (Nat.two_pow_pos len)
  calc n + v % 2 ^ len * 2 ^ lo < (v % 2 ^ len + 1) * 2 ^ lo := by rw [Nat.add_one_mul]; omega
    _ ≤ 2 ^ len * 2 ^ lo := Nat.mul_le_mul_right _ hv
    _ = 2 ^ (lo + len) := by rw [Nat.pow_add, Nat.mul_comm]

/-- A flag packed as one bit reads as the flag. -/
theorem bit_testBit_zero (b : Bool) : (bit b).testBit 0 = b := by cases b <;> rfl

/-! ## The result of QUERY_MEMBERS -/

/-- The result word of QUERY_MEMBERS (section 9.3): the two sets and whether the issuer is a member. -/
def membersWord (members departing : HostSet) (member : Bool) : Word :=
  pack [(0, 4, members.toNat), (4, 4, departing.toNat), (8, 1, bit member)]

/-- The word's bits by the field they lie in. -/
theorem membersWord_getLsbD (m d : HostSet) (b : Bool) {i : Nat} (hi : i < 16) :
    (membersWord m d b).getLsbD i =
      if i < 8 then if i < 4 then m.getLsbD i else decide (i - 4 < 4) && d.getLsbD (i - 4)
      else decide (i - 8 < 1) && (bit b).testBit (i - 8) := by
  have below4 := add_field_lt (lo := 0) Nat.one_pos 4 m.toNat
  have below8 := add_field_lt below4 4 d.toNat
  simp only [membersWord, pack, List.foldl, BitVec.getLsbD_ofNat, hi, decide_true, Bool.true_and]
  rw [testBit_add_field below8, testBit_add_field below4]
  simp only [Nat.zero_add, Nat.pow_zero, Nat.mul_one, Nat.mod_eq_of_lt m.isLt, BitVec.testBit_toNat]

theorem membersWord_members (m d : HostSet) (b : Bool) (h : HostId) :
    (membersWord m d b).getLsbD h.val = m.has h := by
  rw [membersWord_getLsbD m d b (by omega), if_pos (by omega), if_pos h.isLt, HostSet.has]

theorem membersWord_departing (m d : HostSet) (b : Bool) (h : HostId) :
    (membersWord m d b).getLsbD (4 + h.val) = d.has h := by
  rw [membersWord_getLsbD m d b (by omega), if_pos (by omega), if_neg (by omega), Nat.add_sub_cancel_left, HostSet.has]
  simp [h.isLt]

theorem membersWord_member (m d : HostSet) (b : Bool) : (membersWord m d b).getLsbD 8 = b := by
  rw [membersWord_getLsbD m d b (by decide), if_neg (by decide)]
  exact bit_testBit_zero b

/-- A host is in the departing set while its departure is not complete. -/
theorem State.departingSet_has (s : State) (h : HostId) : s.departingSet.has h = (s.departure h).isSome := by
  have adds (n : HostSet) (k : HostId) : HostSet.has (if (s.departure k).isSome then HostSet.plus n k else n) h =
      (decide (h = k) && (s.departure k).isSome || HostSet.has n h) := by
    split <;> simp_all [HostSet.has_plus]
  have empty : HostSet.has 0 h = false := by simp [HostSet.has]
  simp only [State.departingSet, allHosts, List.foldl, adds, empty]
  fin_cases h <;> simp

/-- What QUERY_MEMBERS returns to host `p`. -/
def State.membersWord (s : State) (p : HostId) : Word := Machine.membersWord s.agu.members s.departingSet (s.isMember p)

/-- AGU answers QUERY_MEMBERS from its own record, which the issue of the command leaves as it was. -/
theorem unitCommand_queryMembers (s : State) (p : HostId) (c : Captured) :
    unitCommand .queryMembers p c (s.issued p .queryMembers) =
      (s.issued p .queryMembers, some ⟨.ok, [s.membersWord p]⟩) := rfl

/-! ## The command -/

/-- QUERY_MEMBERS at a ready port: the answer in the port is the whole effect. -/
theorem queryMembers_onlyAnswers {s : State} {p : HostId} (h : s.ready p) :
    onlyAnswers p .queryMembers .ok [s.membersWord p] s (hostCommand p .queryMembers s) :=
  hostCommand_onlyAnswers h (unitCommand_queryMembers s p _)

/-- AGU holds the JOIN of a departing host (R45): the port has taken the command and no answer has come. -/
theorem hostCommand_join_held {s : State} {p : HostId} (h : s.ready p) (hm : s.isMember p = false)
    (hd : (s.departure p).isSome = true) : hostCommand p .join s = s.issued p .join := by
  have held : unitCommand .join p (s.words p .join) (s.issued p .join) = (s.issued p .join, none) := by
    have hm' : (s.issued p .join).isMember p = false := hm
    have hd' : ((s.issued p .join).departure p).isSome = true := hd
    simp [unitCommand, join, hm', hd']
  rw [hostCommand_eq .join h, held]
  rfl

/-- A command at an open port that is BUSY is not taken: the issue-while-busy flag is the whole effect (R153). -/
theorem hostCommand_busy {s : State} {p : HostId} (k : Cmd) (hr : s.resetLow = false)
    (hp : (s.port p).resetLow = false) (hb : (s.port p).state = .busy) :
    hostCommand p k s = s.modPort p Port.flagBusy :=
  hostCommand_engaged k (by simp [State.open, hr, hp]) (by simp [Port.engaged, hb])

/-- Settles O33: the answer's word bit by bit, the held JOIN, and the BUSY port. -/
theorem queryMembersReturnsTheSets : Obligations.QueryMembersReturnsTheSets := by
  refine ⟨fun s p h => ?_, fun s p h hm hd => ?_, fun s p hr hp hb => ?_⟩
  · refine ⟨_, s.membersWord p, rfl, queryMembers_onlyAnswers h, fun q => ?_, fun q => ?_, ?_⟩
    · exact membersWord_members _ _ _ q
    · exact (membersWord_departing _ _ _ q).trans (s.departingSet_has q)
    · exact membersWord_member _ _ _
  · refine ⟨_, rfl, ?_⟩
    rw [hostCommand_join_held h hm hd, State.issued_port, if_pos rfl, Port.issue]
  · refine ⟨_, rfl, ?_⟩
    rw [hostCommand_busy .queryMembers hr hp hb]
    exact ⟨rfl, fun q hq => s.modPort_port_ne _ hq, s.modPort_port_same p _⟩

end Sys2Proof.Machine
end

