-- ==== Sys2Proof/Proofs/MailboxPort.lean ====
section
/-!
PROOFS. The mailbox at its port (R162): the addresses it lies at, what a host's write of a word leaves, and what the host reads back.
-/
namespace Sys2Proof.Machine

/-! ## The addresses of the mailbox -/

/-- The 256 words from 0x0100 are the mailbox, in order (R151). -/
theorem addrClass_mailbox (j : Fin 256) : addrClass (BitVec.ofNat 15 (0x0100 + j.val)) = .mailbox j := by
  have address : (BitVec.ofNat 15 (0x0100 + j.val)).toNat = 0x0100 + j.val := by
    rw [BitVec.toNat_ofNat]
    exact Nat.mod_eq_of_lt (by omega)
  have notPage : ¬ 0x0100 + j.val < 0x40 := by omega
  have inMailbox : 0x0100 ≤ 0x0100 + j.val ∧ 0x0100 + j.val < 0x200 := by omega
  simp only [addrClass, address, if_neg notPage, dif_pos inMailbox, Nat.add_sub_cancel_left]

/-! ## A read -/

/-- With both reset lines high the port takes accesses, in every port state. -/
theorem State.open_of_resets_high {s : State} {p : HostId} (hr : s.resetLow = false) (hp : (s.port p).resetLow = false) :
    s.open p = true := by simp [State.open, hr, hp]

/-- A read at a mailbox address returns the word of the port's own host. -/
theorem hostRead_mailbox {s : State} {p : HostId} (ho : s.open p = true) (j : Fin 256) :
    hostRead p (BitVec.ofNat 15 (0x0100 + j.val)) s = (pick s.ota.mailboxes p).read j.val := by
  simp [hostRead, ho, addrClass_mailbox]

/-! ## A write -/

/-- A write that the port takes replaces the host's own mailbox, and nothing else of the state. -/
theorem writeMailbox_of_open {s : State} {p : HostId} (ho : s.open p = true) (j : Fin 256) (v : Word) :
    writeMailbox p j v s =
      s.setOta { s.ota with mailboxes := put s.ota.mailboxes p ((pick s.ota.mailboxes p).write j.val v) } :=
  if_pos ho

/-- A write to a mailbox leaves every port taking accesses or not, as before. -/
@[simp] theorem writeMailbox_open (p q : HostId) (j : Fin 256) (v : Word) (s : State) :
    (writeMailbox p j v s).open q = s.open q := by
  unfold writeMailbox
  split <;> rfl

/-- Only the mailboxes change: no flag, and no other state of a port. -/
theorem writeMailbox_frame {s : State} {p : HostId} (ho : s.open p = true) (j : Fin 256) (v : Word) :
    writeMailbox p j v s = { s with ota := { s.ota with mailboxes := (writeMailbox p j v s).ota.mailboxes } } := by
  rw [writeMailbox_of_open ho]
  rfl

/-- The mailboxes of the other hosts are as before. -/
theorem writeMailbox_mailbox_ne {s : State} {p q : HostId} (ho : s.open p = true) (hq : q ≠ p) (j : Fin 256) (v : Word) :
    pick (writeMailbox p j v s).ota.mailboxes q = pick s.ota.mailboxes q := by
  rw [writeMailbox_of_open ho]
  exact pick_put_ne s.ota.mailboxes _ hq

/-- The host's own mailbox holds the written word at `j` and every other word as before. The canonical form is needed here: only in a
list whose addresses rise does a word stand at one place. -/
theorem writeMailbox_read {s : State} {p : HostId} (ho : s.open p = true) (hm : s.memoryOk) (j : Fin 256) (v : Word) (x : Nat) :
    (pick (writeMailbox p j v s).ota.mailboxes p).read x =
      if x = j.val then v else (pick s.ota.mailboxes p).read x := by
  obtain ⟨_, mailboxesOk⟩ := hm
  rw [writeMailbox_of_open ho, State.setOta_ota, pick_put_same]
  exact WordMem.read_write v (mailboxesOk p)

/-- The row is the host's write. -/
theorem exec_mailboxWrite (p : HostId) (j : Fin 256) (v : Word) (s : State) :
    exec (.mailboxWrite p j v) s = .next (writeMailbox p j v s) := rfl

/-- Settles O53: the word read at its address, the write and what it leaves, and the word read back at the same address. -/
theorem mailboxIsReadAndWritten : Obligations.MailboxIsReadAndWritten := by
  intro s p j v hm hr hp
  have ho := State.open_of_resets_high hr hp
  have readBack : hostRead p (BitVec.ofNat 15 (0x0100 + j.val)) (writeMailbox p j v s) = v := by
    rw [hostRead_mailbox ((writeMailbox_open p p j v s).trans ho), writeMailbox_read ho hm, if_pos rfl]
  exact ⟨hostRead_mailbox ho j, writeMailbox p j v s, exec_mailboxWrite p j v s, writeMailbox_frame ho j v,
    fun _ hq => writeMailbox_mailbox_ne ho hq j v, writeMailbox_read ho hm j v, readBack⟩

end Sys2Proof.Machine
end
